-- ==== Sys2Proof/Word.lean ====
section
/-!
DEFINITION. The two widths of the hardware (00_scope.md R4, R5): a byte and an address.
-/

namespace Sys2Proof

/-- A byte: a register, a memory cell, a bus datum (8 bits, R4). -/
abbrev Byte := BitVec 8

/-- An address (16 bits, R4). -/
abbrev Word := BitVec 16

end Sys2Proof
end

