-- ==== Sys2Proof/Syntax.lean ====
section
/-!
DEFINITION. The instruction set as syntax: addressing modes, shapes, mnemonics, and the one
inductive `Instr`, one constructor for each defined row of spec/opcode_table.json (151) and one,
`illegal`, for the 105 rows whose mnemonic is ILLEGAL (notes/assumptions/14.md).
-/

namespace Sys2Proof

/-- The 13 addressing modes of 30_encoding.md R60. -/
inductive Mode where
  | imp
  | acc
  | imm
  | zp
  | zpx
  | zpy
  | abs
  | absx
  | absy
  | ind
  | indx
  | indy
  | rel
  deriving DecidableEq, Repr

/-- How many operand bytes follow the opcode byte: a function of the mode alone (R60). -/
def Mode.operandBytes : Mode → Nat
  | .imp | .acc => 0
  | .imm | .zp | .zpx | .zpy | .indx | .indy | .rel => 1
  | .abs | .absx | .absy | .ind => 2

/-- The seven shapes of 00_scope.md R11. -/
inductive Shape where
  | read
  | rmw
  | write
  | implied
  | stack
  | jump
  | branch
  deriving DecidableEq, Repr

/-- The 56 mnemonics of 30_encoding.md R64, in the order of R66. -/
inductive Mnemonic where
  | lda | ldx | ldy | ora | and | eor | adc | sbc
  | cmp | cpx | cpy | bit | inc | dec | asl | lsr
  | rol | ror | sta | stx | sty | clc | cld | cli
  | clv | sec | sed | sei | nop | inx | iny | dex
  | dey | tax | tay | tsx | txa | txs | tya | pha
  | php | pla | plp | jsr | rts | brk | rti | jmp
  | bpl | bmi | bvc | bvs | bcc | bcs | bne | beq
  deriving DecidableEq, Repr

/-- The shape of a mnemonic (00_scope.md R11; 48_step_engine.md R197). -/
def Mnemonic.shape : Mnemonic → Shape
  | .lda | .ldx | .ldy | .ora | .and | .eor | .adc | .sbc | .cmp | .cpx | .cpy | .bit => .read
  | .inc | .dec | .asl | .lsr | .rol | .ror => .rmw
  | .sta | .stx | .sty => .write
  | .clc | .cld | .cli | .clv | .sec | .sed | .sei | .nop | .inx | .iny | .dex | .dey | .tax | .tay | .tsx | .txa | .txs | .tya => .implied
  | .pha | .php | .pla | .plp | .jsr | .rts | .brk | .rti => .stack
  | .jmp => .jump
  | .bpl | .bmi | .bvc | .bvs | .bcc | .bcs | .bne | .beq => .branch

/-- The mnemonic as an assembler writes it (30_encoding.md R64). -/
def Mnemonic.name : Mnemonic → String
  | .lda => "LDA"
  | .ldx => "LDX"
  | .ldy => "LDY"
  | .ora => "ORA"
  | .and => "AND"
  | .eor => "EOR"
  | .adc => "ADC"
  | .sbc => "SBC"
  | .cmp => "CMP"
  | .cpx => "CPX"
  | .cpy => "CPY"
  | .bit => "BIT"
  | .inc => "INC"
  | .dec => "DEC"
  | .asl => "ASL"
  | .lsr => "LSR"
  | .rol => "ROL"
  | .ror => "ROR"
  | .sta => "STA"
  | .stx => "STX"
  | .sty => "STY"
  | .clc => "CLC"
  | .cld => "CLD"
  | .cli => "CLI"
  | .clv => "CLV"
  | .sec => "SEC"
  | .sed => "SED"
  | .sei => "SEI"
  | .nop => "NOP"
  | .inx => "INX"
  | .iny => "INY"
  | .dex => "DEX"
  | .dey => "DEY"
  | .tax => "TAX"
  | .tay => "TAY"
  | .tsx => "TSX"
  | .txa => "TXA"
  | .txs => "TXS"
  | .tya => "TYA"
  | .pha => "PHA"
  | .php => "PHP"
  | .pla => "PLA"
  | .plp => "PLP"
  | .jsr => "JSR"
  | .rts => "RTS"
  | .brk => "BRK"
  | .rti => "RTI"
  | .jmp => "JMP"
  | .bpl => "BPL"
  | .bmi => "BMI"
  | .bvc => "BVC"
  | .bvs => "BVS"
  | .bcc => "BCC"
  | .bcs => "BCS"
  | .bne => "BNE"
  | .beq => "BEQ"

/-- One instruction, operands included. `d8` is an immediate byte, `z` a zero-page address, `off` a
signed branch offset, `addr`, `target`, `ptr` the 16-bit value of the two operand bytes, low byte
first (30_encoding.md R61, R62). -/
inductive Instr where
  /-- LDA, immediate, opcode A9 (R101). -/
  | ldaImm (d8 : Byte)
  /-- LDA, zero page, opcode A5 (R101). -/
  | ldaZp (z : Byte)
  /-- LDA, zero page,X, opcode B5 (R101). -/
  | ldaZpx (z : Byte)
  /-- LDA, absolute, opcode AD (R101). -/
  | ldaAbs (addr : Word)
  /-- LDA, absolute,X, opcode BD (R101). -/
  | ldaAbsx (addr : Word)
  /-- LDA, absolute,Y, opcode B9 (R101). -/
  | ldaAbsy (addr : Word)
  /-- LDA, (indirect,X), opcode A1 (R101). -/
  | ldaIndx (z : Byte)
  /-- LDA, (indirect),Y, opcode B1 (R101). -/
  | ldaIndy (z : Byte)
  /-- LDX, immediate, opcode A2 (R102). -/
  | ldxImm (d8 : Byte)
  /-- LDX, zero page, opcode A6 (R102). -/
  | ldxZp (z : Byte)
  /-- LDX, zero page,Y, opcode B6 (R102). -/
  | ldxZpy (z : Byte)
  /-- LDX, absolute, opcode AE (R102). -/
  | ldxAbs (addr : Word)
  /-- LDX, absolute,Y, opcode BE (R102). -/
  | ldxAbsy (addr : Word)
  /-- LDY, immediate, opcode A0 (R103). -/
  | ldyImm (d8 : Byte)
  /-- LDY, zero page, opcode A4 (R103). -/
  | ldyZp (z : Byte)
  /-- LDY, zero page,X, opcode B4 (R103). -/
  | ldyZpx (z : Byte)
  /-- LDY, absolute, opcode AC (R103). -/
  | ldyAbs (addr : Word)
  /-- LDY, absolute,X, opcode BC (R103). -/
  | ldyAbsx (addr : Word)
  /-- ORA, immediate, opcode 09 (R104). -/
  | oraImm (d8 : Byte)
  /-- ORA, zero page, opcode 05 (R104). -/
  | oraZp (z : Byte)
  /-- ORA, zero page,X, opcode 15 (R104). -/
  | oraZpx (z : Byte)
  /-- ORA, absolute, opcode 0D (R104). -/
  | oraAbs (addr : Word)
  /-- ORA, absolute,X, opcode 1D (R104). -/
  | oraAbsx (addr : Word)
  /-- ORA, absolute,Y, opcode 19 (R104). -/
  | oraAbsy (addr : Word)
  /-- ORA, (indirect,X), opcode 01 (R104). -/
  | oraIndx (z : Byte)
  /-- ORA, (indirect),Y, opcode 11 (R104). -/
  | oraIndy (z : Byte)
  /-- AND, immediate, opcode 29 (R105). -/
  | andImm (d8 : Byte)
  /-- AND, zero page, opcode 25 (R105). -/
  | andZp (z : Byte)
  /-- AND, zero page,X, opcode 35 (R105). -/
  | andZpx (z : Byte)
  /-- AND, absolute, opcode 2D (R105). -/
  | andAbs (addr : Word)
  /-- AND, absolute,X, opcode 3D (R105). -/
  | andAbsx (addr : Word)
  /-- AND, absolute,Y, opcode 39 (R105). -/
  | andAbsy (addr : Word)
  /-- AND, (indirect,X), opcode 21 (R105). -/
  | andIndx (z : Byte)
  /-- AND, (indirect),Y, opcode 31 (R105). -/
  | andIndy (z : Byte)
  /-- EOR, immediate, opcode 49 (R106). -/
  | eorImm (d8 : Byte)
  /-- EOR, zero page, opcode 45 (R106). -/
  | eorZp (z : Byte)
  /-- EOR, zero page,X, opcode 55 (R106). -/
  | eorZpx (z : Byte)
  /-- EOR, absolute, opcode 4D (R106). -/
  | eorAbs (addr : Word)
  /-- EOR, absolute,X, opcode 5D (R106). -/
  | eorAbsx (addr : Word)
  /-- EOR, absolute,Y, opcode 59 (R106). -/
  | eorAbsy (addr : Word)
  /-- EOR, (indirect,X), opcode 41 (R106). -/
  | eorIndx (z : Byte)
  /-- EOR, (indirect),Y, opcode 51 (R106). -/
  | eorIndy (z : Byte)
  /-- ADC, immediate, opcode 69 (R115). -/
  | adcImm (d8 : Byte)
  /-- ADC, zero page, opcode 65 (R115). -/
  | adcZp (z : Byte)
  /-- ADC, zero page,X, opcode 75 (R115). -/
  | adcZpx (z : Byte)
  /-- ADC, absolute, opcode 6D (R115). -/
  | adcAbs (addr : Word)
  /-- ADC, absolute,X, opcode 7D (R115). -/
  | adcAbsx (addr : Word)
  /-- ADC, absolute,Y, opcode 79 (R115). -/
  | adcAbsy (addr : Word)
  /-- ADC, (indirect,X), opcode 61 (R115). -/
  | adcIndx (z : Byte)
  /-- ADC, (indirect),Y, opcode 71 (R115). -/
  | adcIndy (z : Byte)
  /-- SBC, immediate, opcode E9 (R116). -/
  | sbcImm (d8 : Byte)
  /-- SBC, zero page, opcode E5 (R116). -/
  | sbcZp (z : Byte)
  /-- SBC, zero page,X, opcode F5 (R116). -/
  | sbcZpx (z : Byte)
  /-- SBC, absolute, opcode ED (R116). -/
  | sbcAbs (addr : Word)
  /-- SBC, absolute,X, opcode FD (R116). -/
  | sbcAbsx (addr : Word)
  /-- SBC, absolute,Y, opcode F9 (R116). -/
  | sbcAbsy (addr : Word)
  /-- SBC, (indirect,X), opcode E1 (R116). -/
  | sbcIndx (z : Byte)
  /-- SBC, (indirect),Y, opcode F1 (R116). -/
  | sbcIndy (z : Byte)
  /-- CMP, immediate, opcode C9 (R107). -/
  | cmpImm (d8 : Byte)
  /-- CMP, zero page, opcode C5 (R107). -/
  | cmpZp (z : Byte)
  /-- CMP, zero page,X, opcode D5 (R107). -/
  | cmpZpx (z : Byte)
  /-- CMP, absolute, opcode CD (R107). -/
  | cmpAbs (addr : Word)
  /-- CMP, absolute,X, opcode DD (R107). -/
  | cmpAbsx (addr : Word)
  /-- CMP, absolute,Y, opcode D9 (R107). -/
  | cmpAbsy (addr : Word)
  /-- CMP, (indirect,X), opcode C1 (R107). -/
  | cmpIndx (z : Byte)
  /-- CMP, (indirect),Y, opcode D1 (R107). -/
  | cmpIndy (z : Byte)
  /-- CPX, immediate, opcode E0 (R108). -/
  | cpxImm (d8 : Byte)
  /-- CPX, zero page, opcode E4 (R108). -/
  | cpxZp (z : Byte)
  /-- CPX, absolute, opcode EC (R108). -/
  | cpxAbs (addr : Word)
  /-- CPY, immediate, opcode C0 (R109). -/
  | cpyImm (d8 : Byte)
  /-- CPY, zero page, opcode C4 (R109). -/
  | cpyZp (z : Byte)
  /-- CPY, absolute, opcode CC (R109). -/
  | cpyAbs (addr : Word)
  /-- BIT, zero page, opcode 24 (R110). -/
  | bitZp (z : Byte)
  /-- BIT, absolute, opcode 2C (R110). -/
  | bitAbs (addr : Word)
  /-- INC, zero page, opcode E6 (R126). -/
  | incZp (z : Byte)
  /-- INC, zero page,X, opcode F6 (R126). -/
  | incZpx (z : Byte)
  /-- INC, absolute, opcode EE (R126). -/
  | incAbs (addr : Word)
  /-- INC, absolute,X, opcode FE (R126). -/
  | incAbsx (addr : Word)
  /-- DEC, zero page, opcode C6 (R127). -/
  | decZp (z : Byte)
  /-- DEC, zero page,X, opcode D6 (R127). -/
  | decZpx (z : Byte)
  /-- DEC, absolute, opcode CE (R127). -/
  | decAbs (addr : Word)
  /-- DEC, absolute,X, opcode DE (R127). -/
  | decAbsx (addr : Word)
  /-- ASL, accumulator, opcode 0A (R128). -/
  | aslAcc
  /-- ASL, zero page, opcode 06 (R128). -/
  | aslZp (z : Byte)
  /-- ASL, zero page,X, opcode 16 (R128). -/
  | aslZpx (z : Byte)
  /-- ASL, absolute, opcode 0E (R128). -/
  | aslAbs (addr : Word)
  /-- ASL, absolute,X, opcode 1E (R128). -/
  | aslAbsx (addr : Word)
  /-- LSR, accumulator, opcode 4A (R129). -/
  | lsrAcc
  /-- LSR, zero page, opcode 46 (R129). -/
  | lsrZp (z : Byte)
  /-- LSR, zero page,X, opcode 56 (R129). -/
  | lsrZpx (z : Byte)
  /-- LSR, absolute, opcode 4E (R129). -/
  | lsrAbs (addr : Word)
  /-- LSR, absolute,X, opcode 5E (R129). -/
  | lsrAbsx (addr : Word)
  /-- ROL, accumulator, opcode 2A (R130). -/
  | rolAcc
  /-- ROL, zero page, opcode 26 (R130). -/
  | rolZp (z : Byte)
  /-- ROL, zero page,X, opcode 36 (R130). -/
  | rolZpx (z : Byte)
  /-- ROL, absolute, opcode 2E (R130). -/
  | rolAbs (addr : Word)
  /-- ROL, absolute,X, opcode 3E (R130). -/
  | rolAbsx (addr : Word)
  /-- ROR, accumulator, opcode 6A (R131). -/
  | rorAcc
  /-- ROR, zero page, opcode 66 (R131). -/
  | rorZp (z : Byte)
  /-- ROR, zero page,X, opcode 76 (R131). -/
  | rorZpx (z : Byte)
  /-- ROR, absolute, opcode 6E (R131). -/
  | rorAbs (addr : Word)
  /-- ROR, absolute,X, opcode 7E (R131). -/
  | rorAbsx (addr : Word)
  /-- STA, zero page, opcode 85 (R136). -/
  | staZp (z : Byte)
  /-- STA, zero page,X, opcode 95 (R136). -/
  | staZpx (z : Byte)
  /-- STA, absolute, opcode 8D (R136). -/
  | staAbs (addr : Word)
  /-- STA, absolute,X, opcode 9D (R136). -/
  | staAbsx (addr : Word)
  /-- STA, absolute,Y, opcode 99 (R136). -/
  | staAbsy (addr : Word)
  /-- STA, (indirect,X), opcode 81 (R136). -/
  | staIndx (z : Byte)
  /-- STA, (indirect),Y, opcode 91 (R136). -/
  | staIndy (z : Byte)
  /-- STX, zero page, opcode 86 (R137). -/
  | stxZp (z : Byte)
  /-- STX, zero page,Y, opcode 96 (R137). -/
  | stxZpy (z : Byte)
  /-- STX, absolute, opcode 8E (R137). -/
  | stxAbs (addr : Word)
  /-- STY, zero page, opcode 84 (R138). -/
  | styZp (z : Byte)
  /-- STY, zero page,X, opcode 94 (R138). -/
  | styZpx (z : Byte)
  /-- STY, absolute, opcode 8C (R138). -/
  | styAbs (addr : Word)
  /-- CLC, implied, opcode 18 (R141). -/
  | clc
  /-- CLD, implied, opcode D8 (R142). -/
  | cld
  /-- CLI, implied, opcode 58 (R143). -/
  | cli
  /-- CLV, implied, opcode B8 (R144). -/
  | clv
  /-- SEC, implied, opcode 38 (R145). -/
  | sec
  /-- SED, implied, opcode F8 (R146). -/
  | sed
  /-- SEI, implied, opcode 78 (R147). -/
  | sei
  /-- NOP, implied, opcode EA (R148). -/
  | nop
  /-- INX, implied, opcode E8 (R149). -/
  | inx
  /-- INY, implied, opcode C8 (R150). -/
  | iny
  /-- DEX, implied, opcode CA (R151). -/
  | dex
  /-- DEY, implied, opcode 88 (R152). -/
  | dey
  /-- TAX, implied, opcode AA (R153). -/
  | tax
  /-- TAY, implied, opcode A8 (R154). -/
  | tay
  /-- TSX, implied, opcode BA (R155). -/
  | tsx
  /-- TXA, implied, opcode 8A (R156). -/
  | txa
  /-- TXS, implied, opcode 9A (R157). -/
  | txs
  /-- TYA, implied, opcode 98 (R158). -/
  | tya
  /-- PHA, implied, opcode 48 (R166). -/
  | pha
  /-- PHP, implied, opcode 08 (R167). -/
  | php
  /-- PLA, implied, opcode 68 (R168). -/
  | pla
  /-- PLP, implied, opcode 28 (R169). -/
  | plp
  /-- JSR, absolute, opcode 20 (R170). -/
  | jsr (target : Word)
  /-- RTS, implied, opcode 60 (R171). -/
  | rts
  /-- BRK, implied, opcode 00 (R172). -/
  | brk
  /-- RTI, implied, opcode 40 (R173). -/
  | rti
  /-- JMP, absolute, opcode 4C (R180). -/
  | jmpAbs (target : Word)
  /-- JMP, indirect, opcode 6C (R180). -/
  | jmpInd (ptr : Word)
  /-- BPL, relative, opcode 10 (R182). -/
  | bpl (off : Byte)
  /-- BMI, relative, opcode 30 (R183). -/
  | bmi (off : Byte)
  /-- BVC, relative, opcode 50 (R184). -/
  | bvc (off : Byte)
  /-- BVS, relative, opcode 70 (R185). -/
  | bvs (off : Byte)
  /-- BCC, relative, opcode 90 (R186). -/
  | bcc (off : Byte)
  /-- BCS, relative, opcode B0 (R187). -/
  | bcs (off : Byte)
  /-- BNE, relative, opcode D0 (R188). -/
  | bne (off : Byte)
  /-- BEQ, relative, opcode F0 (R189). -/
  | beq (off : Byte)
  /-- A byte without a dispatch entry: ILLEGAL, the 105 opcode bytes of R67 (R211). -/
  | illegal (op : Byte)
  deriving DecidableEq, Repr

end Sys2Proof
end

