-- ==== Sys2Proof/WellFormed.lean ====
section
/-!
DEFINITION. Which terms of `Instr` are instructions of the hardware. Every operand value is legal in
every operand position (30_encoding.md R68), so the one check is on `illegal`: its byte is one of
the 105 bytes of R67. The list is written from R67 and not from the dispatch table of Decode.lean,
so that the two can be held against each other.
-/

namespace Sys2Proof

/-- R67, high nibble 0. -/
def illegalRow0 : List Byte := [0x02, 0x03, 0x04, 0x07, 0x0B, 0x0C, 0x0F]
/-- R67, high nibble 1. -/
def illegalRow1 : List Byte := [0x12, 0x13, 0x14, 0x17, 0x1A, 0x1B, 0x1C, 0x1F]
/-- R67, high nibble 2. -/
def illegalRow2 : List Byte := [0x22, 0x23, 0x27, 0x2B, 0x2F]
/-- R67, high nibble 3. -/
def illegalRow3 : List Byte := [0x32, 0x33, 0x34, 0x37, 0x3A, 0x3B, 0x3C, 0x3F]
/-- R67, high nibble 4. -/
def illegalRow4 : List Byte := [0x42, 0x43, 0x44, 0x47, 0x4B, 0x4F]
/-- R67, high nibble 5. -/
def illegalRow5 : List Byte := [0x52, 0x53, 0x54, 0x57, 0x5A, 0x5B, 0x5C, 0x5F]
/-- R67, high nibble 6. -/
def illegalRow6 : List Byte := [0x62, 0x63, 0x64, 0x67, 0x6B, 0x6F]
/-- R67, high nibble 7. -/
def illegalRow7 : List Byte := [0x72, 0x73, 0x74, 0x77, 0x7A, 0x7B, 0x7C, 0x7F]
/-- R67, high nibble 8. -/
def illegalRow8 : List Byte := [0x80, 0x82, 0x83, 0x87, 0x89, 0x8B, 0x8F]
/-- R67, high nibble 9. -/
def illegalRow9 : List Byte := [0x92, 0x93, 0x97, 0x9B, 0x9C, 0x9E, 0x9F]
/-- R67, high nibble A. -/
def illegalRowA : List Byte := [0xA3, 0xA7, 0xAB, 0xAF]
/-- R67, high nibble B. -/
def illegalRowB : List Byte := [0xB2, 0xB3, 0xB7, 0xBB, 0xBF]
/-- R67, high nibble C. -/
def illegalRowC : List Byte := [0xC2, 0xC3, 0xC7, 0xCB, 0xCF]
/-- R67, high nibble D. -/
def illegalRowD : List Byte := [0xD2, 0xD3, 0xD4, 0xD7, 0xDA, 0xDB, 0xDC, 0xDF]
/-- R67, high nibble E. -/
def illegalRowE : List Byte := [0xE2, 0xE3, 0xE7, 0xEB, 0xEF]
/-- R67, high nibble F. -/
def illegalRowF : List Byte := [0xF2, 0xF3, 0xF4, 0xF7, 0xFA, 0xFB, 0xFC, 0xFF]

/-- The 105 opcode bytes without an entry (30_encoding.md R67). -/
def illegalOpcodes : List Byte :=
  illegalRow0 ++
  illegalRow1 ++
  illegalRow2 ++
  illegalRow3 ++
  illegalRow4 ++
  illegalRow5 ++
  illegalRow6 ++
  illegalRow7 ++
  illegalRow8 ++
  illegalRow9 ++
  illegalRowA ++
  illegalRowB ++
  illegalRowC ++
  illegalRowD ++
  illegalRowE ++
  illegalRowF

/-- A well-formed instruction: an `illegal` holds one of the bytes of R67; every other constructor
is well formed whatever its operand (R68). -/
def Instr.wf : Instr → Bool
  | .illegal op => illegalOpcodes.contains op
  | _ => true

end Sys2Proof
end

