-- ==== Sys2Proof/Decode.lean ====
section
/-!
DEFINITION. The dispatch table as the 16 by 16 matrix of 30_encoding.md R66, the decoder from bytes,
the encoder to bytes, the host's numbering of table words, and the assembler text of R69.
-/

namespace Sys2Proof

/-- `hi:lo`, the 16-bit value of two bytes (00_scope.md R5). -/
def wordOf (hi lo : Byte) : Word := hi ++ lo

/-- `a[7:0]`, the low byte of an address (R5). -/
def lowByte (a : Word) : Byte := a.extractLsb' 0 8

/-- `a[15:8]`, the page of an address (R5). -/
def highByte (a : Word) : Byte := a.extractLsb' 8 8

/-- How a dispatch entry builds its instruction from the operand bytes: formats F1, F2, F3 of R61. -/
inductive Build where
  | none (i : Instr)
  | byte (mk : Byte → Instr)
  | word (mk : Word → Instr)

/-- A dispatch entry: the triple of 30_encoding.md R63 and the constructor it stands for. -/
structure DispatchEntry where
  mode : Mode
  instruction : Mnemonic
  baseCycles : Nat
  build : Build

/-- An F1 entry (no operand byte). -/
def entry0 (m : Mnemonic) (mode : Mode) (n : Nat) (i : Instr) : Option DispatchEntry :=
  some { mode := mode, instruction := m, baseCycles := n, build := .none i }

/-- An F2 entry (one operand byte). -/
def entry1 (m : Mnemonic) (mode : Mode) (n : Nat) (mk : Byte → Instr) : Option DispatchEntry :=
  some { mode := mode, instruction := m, baseCycles := n, build := .byte mk }

/-- An F3 entry (two operand bytes). -/
def entry2 (m : Mnemonic) (mode : Mode) (n : Nat) (mk : Word → Instr) : Option DispatchEntry :=
  some { mode := mode, instruction := m, baseCycles := n, build := .word mk }

/-- R66, opcodes 00 to 0F; base cycles from R251. -/
def opcodeRow0 : List (Option DispatchEntry) := [
  entry0 .brk .imp 7 .brk,
  entry1 .ora .indx 6 .oraIndx,
  none,
  none,
  none,
  entry1 .ora .zp 3 .oraZp,
  entry1 .asl .zp 5 .aslZp,
  none,
  entry0 .php .imp 3 .php,
  entry1 .ora .imm 2 .oraImm,
  entry0 .asl .acc 2 .aslAcc,
  none,
  none,
  entry2 .ora .abs 4 .oraAbs,
  entry2 .asl .abs 6 .aslAbs,
  none]

/-- R66, opcodes 10 to 1F; base cycles from R251. -/
def opcodeRow1 : List (Option DispatchEntry) := [
  entry1 .bpl .rel 2 .bpl,
  entry1 .ora .indy 5 .oraIndy,
  none,
  none,
  none,
  entry1 .ora .zpx 4 .oraZpx,
  entry1 .asl .zpx 6 .aslZpx,
  none,
  entry0 .clc .imp 2 .clc,
  entry2 .ora .absy 4 .oraAbsy,
  none,
  none,
  none,
  entry2 .ora .absx 4 .oraAbsx,
  entry2 .asl .absx 7 .aslAbsx,
  none]

/-- R66, opcodes 20 to 2F; base cycles from R251. -/
def opcodeRow2 : List (Option DispatchEntry) := [
  entry2 .jsr .abs 6 .jsr,
  entry1 .and .indx 6 .andIndx,
  none,
  none,
  entry1 .bit .zp 3 .bitZp,
  entry1 .and .zp 3 .andZp,
  entry1 .rol .zp 5 .rolZp,
  none,
  entry0 .plp .imp 4 .plp,
  entry1 .and .imm 2 .andImm,
  entry0 .rol .acc 2 .rolAcc,
  none,
  entry2 .bit .abs 4 .bitAbs,
  entry2 .and .abs 4 .andAbs,
  entry2 .rol .abs 6 .rolAbs,
  none]

/-- R66, opcodes 30 to 3F; base cycles from R251. -/
def opcodeRow3 : List (Option DispatchEntry) := [
  entry1 .bmi .rel 2 .bmi,
  entry1 .and .indy 5 .andIndy,
  none,
  none,
  none,
  entry1 .and .zpx 4 .andZpx,
  entry1 .rol .zpx 6 .rolZpx,
  none,
  entry0 .sec .imp 2 .sec,
  entry2 .and .absy 4 .andAbsy,
  none,
  none,
  none,
  entry2 .and .absx 4 .andAbsx,
  entry2 .rol .absx 7 .rolAbsx,
  none]

/-- R66, opcodes 40 to 4F; base cycles from R251. -/
def opcodeRow4 : List (Option DispatchEntry) := [
  entry0 .rti .imp 6 .rti,
  entry1 .eor .indx 6 .eorIndx,
  none,
  none,
  none,
  entry1 .eor .zp 3 .eorZp,
  entry1 .lsr .zp 5 .lsrZp,
  none,
  entry0 .pha .imp 3 .pha,
  entry1 .eor .imm 2 .eorImm,
  entry0 .lsr .acc 2 .lsrAcc,
  none,
  entry2 .jmp .abs 3 .jmpAbs,
  entry2 .eor .abs 4 .eorAbs,
  entry2 .lsr .abs 6 .lsrAbs,
  none]

/-- R66, opcodes 50 to 5F; base cycles from R251. -/
def opcodeRow5 : List (Option DispatchEntry) := [
  entry1 .bvc .rel 2 .bvc,
  entry1 .eor .indy 5 .eorIndy,
  none,
  none,
  none,
  entry1 .eor .zpx 4 .eorZpx,
  entry1 .lsr .zpx 6 .lsrZpx,
  none,
  entry0 .cli .imp 2 .cli,
  entry2 .eor .absy 4 .eorAbsy,
  none,
  none,
  none,
  entry2 .eor .absx 4 .eorAbsx,
  entry2 .lsr .absx 7 .lsrAbsx,
  none]

/-- R66, opcodes 60 to 6F; base cycles from R251. -/
def opcodeRow6 : List (Option DispatchEntry) := [
  entry0 .rts .imp 6 .rts,
  entry1 .adc .indx 6 .adcIndx,
  none,
  none,
  none,
  entry1 .adc .zp 3 .adcZp,
  entry1 .ror .zp 5 .rorZp,
  none,
  entry0 .pla .imp 4 .pla,
  entry1 .adc .imm 2 .adcImm,
  entry0 .ror .acc 2 .rorAcc,
  none,
  entry2 .jmp .ind 5 .jmpInd,
  entry2 .adc .abs 4 .adcAbs,
  entry2 .ror .abs 6 .rorAbs,
  none]

/-- R66, opcodes 70 to 7F; base cycles from R251. -/
def opcodeRow7 : List (Option DispatchEntry) := [
  entry1 .bvs .rel 2 .bvs,
  entry1 .adc .indy 5 .adcIndy,
  none,
  none,
  none,
  entry1 .adc .zpx 4 .adcZpx,
  entry1 .ror .zpx 6 .rorZpx,
  none,
  entry0 .sei .imp 2 .sei,
  entry2 .adc .absy 4 .adcAbsy,
  none,
  none,
  none,
  entry2 .adc .absx 4 .adcAbsx,
  entry2 .ror .absx 7 .rorAbsx,
  none]

/-- R66, opcodes 80 to 8F; base cycles from R251. -/
def opcodeRow8 : List (Option DispatchEntry) := [
  none,
  entry1 .sta .indx 6 .staIndx,
  none,
  none,
  entry1 .sty .zp 3 .styZp,
  entry1 .sta .zp 3 .staZp,
  entry1 .stx .zp 3 .stxZp,
  none,
  entry0 .dey .imp 2 .dey,
  none,
  entry0 .txa .imp 2 .txa,
  none,
  entry2 .sty .abs 4 .styAbs,
  entry2 .sta .abs 4 .staAbs,
  entry2 .stx .abs 4 .stxAbs,
  none]

/-- R66, opcodes 90 to 9F; base cycles from R251. -/
def opcodeRow9 : List (Option DispatchEntry) := [
  entry1 .bcc .rel 2 .bcc,
  entry1 .sta .indy 6 .staIndy,
  none,
  none,
  entry1 .sty .zpx 4 .styZpx,
  entry1 .sta .zpx 4 .staZpx,
  entry1 .stx .zpy 4 .stxZpy,
  none,
  entry0 .tya .imp 2 .tya,
  entry2 .sta .absy 5 .staAbsy,
  entry0 .txs .imp 2 .txs,
  none,
  none,
  entry2 .sta .absx 5 .staAbsx,
  none,
  none]

/-- R66, opcodes A0 to AF; base cycles from R251. -/
def opcodeRowA : List (Option DispatchEntry) := [
  entry1 .ldy .imm 2 .ldyImm,
  entry1 .lda .indx 6 .ldaIndx,
  entry1 .ldx .imm 2 .ldxImm,
  none,
  entry1 .ldy .zp 3 .ldyZp,
  entry1 .lda .zp 3 .ldaZp,
  entry1 .ldx .zp 3 .ldxZp,
  none,
  entry0 .tay .imp 2 .tay,
  entry1 .lda .imm 2 .ldaImm,
  entry0 .tax .imp 2 .tax,
  none,
  entry2 .ldy .abs 4 .ldyAbs,
  entry2 .lda .abs 4 .ldaAbs,
  entry2 .ldx .abs 4 .ldxAbs,
  none]

/-- R66, opcodes B0 to BF; base cycles from R251. -/
def opcodeRowB : List (Option DispatchEntry) := [
  entry1 .bcs .rel 2 .bcs,
  entry1 .lda .indy 5 .ldaIndy,
  none,
  none,
  entry1 .ldy .zpx 4 .ldyZpx,
  entry1 .lda .zpx 4 .ldaZpx,
  entry1 .ldx .zpy 4 .ldxZpy,
  none,
  entry0 .clv .imp 2 .clv,
  entry2 .lda .absy 4 .ldaAbsy,
  entry0 .tsx .imp 2 .tsx,
  none,
  entry2 .ldy .absx 4 .ldyAbsx,
  entry2 .lda .absx 4 .ldaAbsx,
  entry2 .ldx .absy 4 .ldxAbsy,
  none]

/-- R66, opcodes C0 to CF; base cycles from R251. -/
def opcodeRowC : List (Option DispatchEntry) := [
  entry1 .cpy .imm 2 .cpyImm,
  entry1 .cmp .indx 6 .cmpIndx,
  none,
  none,
  entry1 .cpy .zp 3 .cpyZp,
  entry1 .cmp .zp 3 .cmpZp,
  entry1 .dec .zp 5 .decZp,
  none,
  entry0 .iny .imp 2 .iny,
  entry1 .cmp .imm 2 .cmpImm,
  entry0 .dex .imp 2 .dex,
  none,
  entry2 .cpy .abs 4 .cpyAbs,
  entry2 .cmp .abs 4 .cmpAbs,
  entry2 .dec .abs 6 .decAbs,
  none]

/-- R66, opcodes D0 to DF; base cycles from R251. -/
def opcodeRowD : List (Option DispatchEntry) := [
  entry1 .bne .rel 2 .bne,
  entry1 .cmp .indy 5 .cmpIndy,
  none,
  none,
  none,
  entry1 .cmp .zpx 4 .cmpZpx,
  entry1 .dec .zpx 6 .decZpx,
  none,
  entry0 .cld .imp 2 .cld,
  entry2 .cmp .absy 4 .cmpAbsy,
  none,
  none,
  none,
  entry2 .cmp .absx 4 .cmpAbsx,
  entry2 .dec .absx 7 .decAbsx,
  none]

/-- R66, opcodes E0 to EF; base cycles from R251. -/
def opcodeRowE : List (Option DispatchEntry) := [
  entry1 .cpx .imm 2 .cpxImm,
  entry1 .sbc .indx 6 .sbcIndx,
  none,
  none,
  entry1 .cpx .zp 3 .cpxZp,
  entry1 .sbc .zp 3 .sbcZp,
  entry1 .inc .zp 5 .incZp,
  none,
  entry0 .inx .imp 2 .inx,
  entry1 .sbc .imm 2 .sbcImm,
  entry0 .nop .imp 2 .nop,
  none,
  entry2 .cpx .abs 4 .cpxAbs,
  entry2 .sbc .abs 4 .sbcAbs,
  entry2 .inc .abs 6 .incAbs,
  none]

/-- R66, opcodes F0 to FF; base cycles from R251. -/
def opcodeRowF : List (Option DispatchEntry) := [
  entry1 .beq .rel 2 .beq,
  entry1 .sbc .indy 5 .sbcIndy,
  none,
  none,
  none,
  entry1 .sbc .zpx 4 .sbcZpx,
  entry1 .inc .zpx 6 .incZpx,
  none,
  entry0 .sed .imp 2 .sed,
  entry2 .sbc .absy 4 .sbcAbsy,
  none,
  none,
  none,
  entry2 .sbc .absx 4 .sbcAbsx,
  entry2 .inc .absx 7 .incAbsx,
  none]

/-- The matrix of R66, row by row of the high nibble. -/
def opcodeMatrix : List (List (Option DispatchEntry)) := [
  opcodeRow0, opcodeRow1, opcodeRow2, opcodeRow3, opcodeRow4, opcodeRow5, opcodeRow6, opcodeRow7,
  opcodeRow8, opcodeRow9, opcodeRowA, opcodeRowB, opcodeRowC, opcodeRowD, opcodeRowE, opcodeRowF]

/-- The Opcode Dispatch Table (30_encoding.md R63; 10_state.md R35): the entry of an opcode byte, or
`none` for the 105 placeholders. -/
def dispatchEntry (op : Byte) : Option DispatchEntry :=
  (opcodeMatrix.getD (op.toNat / 16) []).getD (op.toNat % 16) none

/-- Why the decoder refuses a list of bytes. Every opcode byte decodes (an illegal one to `illegal`);
only a list that ends inside an instruction is refused. -/
inductive Reject where
  /-- The list holds no byte at all. -/
  | noOpcode
  /-- The list ends before the operand bytes of this opcode. -/
  | operandMissing (op : Byte)
  deriving DecidableEq, Repr

/-- Decode the instruction at the head of a list of bytes, and hand back the bytes after it
(30_encoding.md R60 to R63, R67). An illegal opcode takes no operand byte (60_exceptions.md R211). -/
def decode : List Byte → Except Reject (Instr × List Byte)
  | [] => .error .noOpcode
  | op :: rest =>
    match (dispatchEntry op).map DispatchEntry.build, rest with
    | none, r => .ok (.illegal op, r)
    | some (.none i), r => .ok (i, r)
    | some (.byte mk), d :: r => .ok (mk d, r)
    | some (.word mk), lo :: hi :: r => .ok (mk (wordOf hi lo), r)
    | some (.byte _), [] => .error (.operandMissing op)
    | some (.word _), [] => .error (.operandMissing op)
    | some (.word _), [_] => .error (.operandMissing op)

/-- The bytes of an instruction, opcode first, address operands low byte first (R61, R66). -/
def encode : Instr → List Byte
  | .ldaImm d8 => [0xA9, d8]
  | .ldaZp z => [0xA5, z]
  | .ldaZpx z => [0xB5, z]
  | .ldaAbs addr => [0xAD, lowByte addr, highByte addr]
  | .ldaAbsx addr => [0xBD, lowByte addr, highByte addr]
  | .ldaAbsy addr => [0xB9, lowByte addr, highByte addr]
  | .ldaIndx z => [0xA1, z]
  | .ldaIndy z => [0xB1, z]
  | .ldxImm d8 => [0xA2, d8]
  | .ldxZp z => [0xA6, z]
  | .ldxZpy z => [0xB6, z]
  | .ldxAbs addr => [0xAE, lowByte addr, highByte addr]
  | .ldxAbsy addr => [0xBE, lowByte addr, highByte addr]
  | .ldyImm d8 => [0xA0, d8]
  | .ldyZp z => [0xA4, z]
  | .ldyZpx z => [0xB4, z]
  | .ldyAbs addr => [0xAC, lowByte addr, highByte addr]
  | .ldyAbsx addr => [0xBC, lowByte addr, highByte addr]
  | .oraImm d8 => [0x09, d8]
  | .oraZp z => [0x05, z]
  | .oraZpx z => [0x15, z]
  | .oraAbs addr => [0x0D, lowByte addr, highByte addr]
  | .oraAbsx addr => [0x1D, lowByte addr, highByte addr]
  | .oraAbsy addr => [0x19, lowByte addr, highByte addr]
  | .oraIndx z => [0x01, z]
  | .oraIndy z => [0x11, z]
  | .andImm d8 => [0x29, d8]
  | .andZp z => [0x25, z]
  | .andZpx z => [0x35, z]
  | .andAbs addr => [0x2D, lowByte addr, highByte addr]
  | .andAbsx addr => [0x3D, lowByte addr, highByte addr]
  | .andAbsy addr => [0x39, lowByte addr, highByte addr]
  | .andIndx z => [0x21, z]
  | .andIndy z => [0x31, z]
  | .eorImm d8 => [0x49, d8]
  | .eorZp z => [0x45, z]
  | .eorZpx z => [0x55, z]
  | .eorAbs addr => [0x4D, lowByte addr, highByte addr]
  | .eorAbsx addr => [0x5D, lowByte addr, highByte addr]
  | .eorAbsy addr => [0x59, lowByte addr, highByte addr]
  | .eorIndx z => [0x41, z]
  | .eorIndy z => [0x51, z]
  | .adcImm d8 => [0x69, d8]
  | .adcZp z => [0x65, z]
  | .adcZpx z => [0x75, z]
  | .adcAbs addr => [0x6D, lowByte addr, highByte addr]
  | .adcAbsx addr => [0x7D, lowByte addr, highByte addr]
  | .adcAbsy addr => [0x79, lowByte addr, highByte addr]
  | .adcIndx z => [0x61, z]
  | .adcIndy z => [0x71, z]
  | .sbcImm d8 => [0xE9, d8]
  | .sbcZp z => [0xE5, z]
  | .sbcZpx z => [0xF5, z]
  | .sbcAbs addr => [0xED, lowByte addr, highByte addr]
  | .sbcAbsx addr => [0xFD, lowByte addr, highByte addr]
  | .sbcAbsy addr => [0xF9, lowByte addr, highByte addr]
  | .sbcIndx z => [0xE1, z]
  | .sbcIndy z => [0xF1, z]
  | .cmpImm d8 => [0xC9, d8]
  | .cmpZp z => [0xC5, z]
  | .cmpZpx z => [0xD5, z]
  | .cmpAbs addr => [0xCD, lowByte addr, highByte addr]
  | .cmpAbsx addr => [0xDD, lowByte addr, highByte addr]
  | .cmpAbsy addr => [0xD9, lowByte addr, highByte addr]
  | .cmpIndx z => [0xC1, z]
  | .cmpIndy z => [0xD1, z]
  | .cpxImm d8 => [0xE0, d8]
  | .cpxZp z => [0xE4, z]
  | .cpxAbs addr => [0xEC, lowByte addr, highByte addr]
  | .cpyImm d8 => [0xC0, d8]
  | .cpyZp z => [0xC4, z]
  | .cpyAbs addr => [0xCC, lowByte addr, highByte addr]
  | .bitZp z => [0x24, z]
  | .bitAbs addr => [0x2C, lowByte addr, highByte addr]
  | .incZp z => [0xE6, z]
  | .incZpx z => [0xF6, z]
  | .incAbs addr => [0xEE, lowByte addr, highByte addr]
  | .incAbsx addr => [0xFE, lowByte addr, highByte addr]
  | .decZp z => [0xC6, z]
  | .decZpx z => [0xD6, z]
  | .decAbs addr => [0xCE, lowByte addr, highByte addr]
  | .decAbsx addr => [0xDE, lowByte addr, highByte addr]
  | .aslAcc => [0x0A]
  | .aslZp z => [0x06, z]
  | .aslZpx z => [0x16, z]
  | .aslAbs addr => [0x0E, lowByte addr, highByte addr]
  | .aslAbsx addr => [0x1E, lowByte addr, highByte addr]
  | .lsrAcc => [0x4A]
  | .lsrZp z => [0x46, z]
  | .lsrZpx z => [0x56, z]
  | .lsrAbs addr => [0x4E, lowByte addr, highByte addr]
  | .lsrAbsx addr => [0x5E, lowByte addr, highByte addr]
  | .rolAcc => [0x2A]
  | .rolZp z => [0x26, z]
  | .rolZpx z => [0x36, z]
  | .rolAbs addr => [0x2E, lowByte addr, highByte addr]
  | .rolAbsx addr => [0x3E, lowByte addr, highByte addr]
  | .rorAcc => [0x6A]
  | .rorZp z => [0x66, z]
  | .rorZpx z => [0x76, z]
  | .rorAbs addr => [0x6E, lowByte addr, highByte addr]
  | .rorAbsx addr => [0x7E, lowByte addr, highByte addr]
  | .staZp z => [0x85, z]
  | .staZpx z => [0x95, z]
  | .staAbs addr => [0x8D, lowByte addr, highByte addr]
  | .staAbsx addr => [0x9D, lowByte addr, highByte addr]
  | .staAbsy addr => [0x99, lowByte addr, highByte addr]
  | .staIndx z => [0x81, z]
  | .staIndy z => [0x91, z]
  | .stxZp z => [0x86, z]
  | .stxZpy z => [0x96, z]
  | .stxAbs addr => [0x8E, lowByte addr, highByte addr]
  | .styZp z => [0x84, z]
  | .styZpx z => [0x94, z]
  | .styAbs addr => [0x8C, lowByte addr, highByte addr]
  | .clc => [0x18]
  | .cld => [0xD8]
  | .cli => [0x58]
  | .clv => [0xB8]
  | .sec => [0x38]
  | .sed => [0xF8]
  | .sei => [0x78]
  | .nop => [0xEA]
  | .inx => [0xE8]
  | .iny => [0xC8]
  | .dex => [0xCA]
  | .dey => [0x88]
  | .tax => [0xAA]
  | .tay => [0xA8]
  | .tsx => [0xBA]
  | .txa => [0x8A]
  | .txs => [0x9A]
  | .tya => [0x98]
  | .pha => [0x48]
  | .php => [0x08]
  | .pla => [0x68]
  | .plp => [0x28]
  | .jsr target => [0x20, lowByte target, highByte target]
  | .rts => [0x60]
  | .brk => [0x00]
  | .rti => [0x40]
  | .jmpAbs target => [0x4C, lowByte target, highByte target]
  | .jmpInd ptr => [0x6C, lowByte ptr, highByte ptr]
  | .bpl off => [0x10, off]
  | .bmi off => [0x30, off]
  | .bvc off => [0x50, off]
  | .bvs off => [0x70, off]
  | .bcc off => [0x90, off]
  | .bcs off => [0xB0, off]
  | .bne off => [0xD0, off]
  | .beq off => [0xF0, off]
  | .illegal op => [op]

/-- The opcode byte of an instruction. -/
def Instr.opcode (i : Instr) : Byte := (encode i).headD 0

/-- The operand bytes of an instruction. -/
def Instr.operandBytes (i : Instr) : List Byte := (encode i).tail

/-- The length of an instruction in bytes (R60). -/
def Instr.length (i : Instr) : Nat := (encode i).length

/-- The dispatch entry of an instruction's own opcode byte; `none` for an illegal one. -/
def Instr.entry (i : Instr) : Option DispatchEntry := dispatchEntry i.opcode

/-- The mnemonic of an instruction; `none` for an illegal opcode. -/
def Instr.mnemonic (i : Instr) : Option Mnemonic := i.entry.map DispatchEntry.instruction

/-- The addressing mode of an instruction; `none` for an illegal opcode. -/
def Instr.mode (i : Instr) : Option Mode := i.entry.map DispatchEntry.mode

/-- The shape of an instruction (00_scope.md R11); `none` for an illegal opcode. -/
def Instr.shape (i : Instr) : Option Shape := i.mnemonic.map Mnemonic.shape

/-- The base cycles of an instruction (30_encoding.md R65; 70_reset_and_hazards.md R251), not
consulted when it runs (48_step_engine.md R197). -/
def Instr.baseCycles (i : Instr) : Option Nat := i.entry.map DispatchEntry.baseCycles

/-- The instruction of a row of spec/opcode_table.json whose bits are `w`, bit 0 the least
significant bit of the first byte; bits from `nbits` up are 0. The longest instruction has three
bytes (R60). -/
def decodeTableWord (nbits w : Nat) : Option Instr :=
  let v := w % 2 ^ nbits
  match decode [BitVec.ofNat 8 v, BitVec.ofNat 8 (v / 256), BitVec.ofNat 8 (v / 65536)] with
  | .ok (i, _) => some i
  | .error _ => none

/-- One hexadecimal digit. -/
def hexDigit (n : Nat) : String :=
  ["0", "1", "2", "3", "4", "5", "6", "7", "8", "9", "A", "B", "C", "D", "E", "F"].getD n ""

/-- Two hexadecimal digits. -/
def hexByte (b : Byte) : String := hexDigit (b.toNat / 16) ++ hexDigit (b.toNat % 16)

/-- Four hexadecimal digits. -/
def hexWord (a : Word) : String := hexByte (highByte a) ++ hexByte (lowByte a)

/-- The operand syntax of 30_encoding.md R69, for the instruction at address `here`; a branch is
written with its target address as the label. -/
def operandText (here : Word) : Mode → List Byte → String
  | .acc, _ => " A"
  | .imm, [d] => " #$" ++ hexByte d
  | .zp, [z] => " $" ++ hexByte z
  | .zpx, [z] => " $" ++ hexByte z ++ ",X"
  | .zpy, [z] => " $" ++ hexByte z ++ ",Y"
  | .abs, [lo, hi] => " $" ++ hexWord (wordOf hi lo)
  | .absx, [lo, hi] => " $" ++ hexWord (wordOf hi lo) ++ ",X"
  | .absy, [lo, hi] => " $" ++ hexWord (wordOf hi lo) ++ ",Y"
  | .ind, [lo, hi] => " ($" ++ hexWord (wordOf hi lo) ++ ")"
  | .indx, [z] => " ($" ++ hexByte z ++ ",X)"
  | .indy, [z] => " ($" ++ hexByte z ++ "),Y"
  | .rel, [off] => " $" ++ hexWord (here + 2 + off.signExtend 16)
  | _, _ => ""

/-- The assembler text of an instruction at address `here` (R69); an illegal byte has none. -/
def Instr.assembly (i : Instr) (here : Word) : Option String :=
  i.entry.map fun e => e.instruction.name ++ operandText here e.mode i.operandBytes

end Sys2Proof
end

