-- ==== Sys2Proof/Config.lean ====
section
/-!
DEFINITION. What is fixed outside the core: the record of a bus transaction, what memory that nothing
has written reads as, and the two free values of the model (constants without a body, so that no
proof can lean on a value of theirs).
-/

namespace Sys2Proof

/-- The two operations of the Bus Interface (20_memory.md R40). -/
inductive BusKind where
  | read
  | write
  deriving DecidableEq, Repr

/-- One bus transaction: kind, address, byte (20_memory.md R56). -/
structure BusEvent where
  kind : BusKind
  addr : Word
  data : Byte
  deriving DecidableEq, Repr

/-- What an address that nothing has written reads as (DESIGN CHOICE, notes/assumptions/3.md). -/
def Config.unlistedByte : Byte := 0x00

/-- FREE VALUE: what a device answers to a read, given the history of bus transactions (newest
first) and the address: the open parameter `BUS` (20_memory.md R41; D23; U4; notes/assumptions/4.md). -/
opaque Config.deviceAnswer : List BusEvent → Word → Byte

/-- FREE VALUE: what the 64-bit counter shows once the number of ticks has passed 2^64 - 1: the open
parameter `CYCLE_OVERFLOW` (10_state.md R32; D18; U3; notes/assumptions/5.md). -/
opaque Config.cycleOverflow : Nat → BitVec 64

end Sys2Proof
end

