-- ==== Sys2Proof/Machine/State.lean ====
section
/-!
DEFINITION. The state record of 10_state.md R20, memory behind the bus, the host's inputs, and the
model's own record of the bus; the reasons a step can stop; the state right after reset.
-/

namespace Sys2Proof.Machine

/-- The six stored status flags (10_state.md R29). The positions `unused` and `B` of the packed byte
hold no state (R30); `Flags.packP` of Flags.lean makes them. -/
structure Flags where
  /-- Negative. -/
  n : Bool
  /-- Overflow. -/
  v : Bool
  /-- Decimal mode. -/
  d : Bool
  /-- Interrupt disable: true masks IRQ. -/
  i : Bool
  /-- Zero. -/
  z : Bool
  /-- Carry. -/
  c : Bool
  deriving DecidableEq, Repr

/-- Memory behind the bus as (address, byte) pairs, addresses strictly rising, no pair whose byte is
what an unlisted address reads as. -/
abbrev Memory := List Host.Cell

/-- The canonical form of `Memory`; every address is a 16-bit one (20_memory.md R42). -/
def Memory.wf : Memory → Bool
  | [] => true
  | (a, v) :: rest =>
    decide (a < 65536) && v != Config.unlistedByte &&
      (rest.head?.all fun c => decide (a < c.1)) && Memory.wf rest

/-- A range of addresses at which the platform has a device and not plain RAM, both ends included
(20_memory.md R41; D23; notes/assumptions/4.md). -/
structure DeviceWindow where
  first : Word
  last : Word
  deriving DecidableEq, Repr

/-- The state of the machine. The first ten members are the core's own (10_state.md R20 to R33);
then the input, the memory and the platform behind the bus; then the model's record of the bus. -/
structure State where
  /-- `A`, the accumulator (R21). -/
  a : Byte
  /-- `X`, an index register (R22). -/
  x : Byte
  /-- `Y`, an index register (R23). -/
  y : Byte
  /-- `S`, the stack pointer, an offset into page 1 (R24). -/
  sp : Byte
  /-- `PC`, the address of the next byte to fetch (R27). -/
  pc : Word
  /-- `N V D I Z C` (R29). -/
  flags : Flags
  /-- `cycles`, the number of ticks since the core was created (R32; notes/assumptions/5.md). -/
  cycles : Nat
  /-- `nmi_pending` (R33). -/
  nmiPending : Bool
  /-- The level of the IRQ line, an input, as the next step samples it (60_exceptions.md R213). -/
  irqLine : Bool
  /-- Memory behind the bus (20_memory.md R41, R42). -/
  mem : Memory
  /-- Where the platform has devices (20_memory.md R41; notes/assumptions/4.md). -/
  deviceWindows : List DeviceWindow
  /-- Every bus transaction since the core was created, newest first (20_memory.md R47, R56;
  notes/assumptions/8.md). -/
  bus : List BusEvent
  deriving DecidableEq, Repr

/-- Why a step stops: the one fault of the hardware (60_exceptions.md R210, R211). -/
inductive Fault where
  /-- `IllegalOpcode(op)`. Raised by `execIllegal`, for the 105 bytes of 30_encoding.md R67. `left` is
  the state the faulting step leaves, from which the host may go on ("skip"), stop, or redirect PC.
  Safe: it is the outcome the spec gives the step (notes/assumptions/6.md). -/
  | illegalOpcode (op : Byte) (left : State)
  deriving DecidableEq, Repr

/-- Why the model has no meaning for an instruction. -/
inductive Refusal where
  /-- An instruction of the opcode table without a meaning yet, by its mnemonic. No arm of `exec`
  raises it: every instruction has a meaning. Safe. -/
  | notModelled (mnemonic : String)
  deriving DecidableEq, Repr

/-- The core as created, before its first RESET: no tick, no transaction, nothing in memory
(10_state.md R36). The registers and flags the spec leaves unspecified are zero (DESIGN CHOICE,
notes/assumptions/1.md). -/
def State.created : State where
  a := 0x00
  x := 0x00
  y := 0x00
  sp := 0x00
  pc := 0x0000
  flags := { n := false, v := false, d := false, i := false, z := false, c := false }
  cycles := 0
  nmiPending := false
  irqLine := false
  mem := []
  deviceWindows := []
  bus := []

/-- The machine right after reset: the RESET operation of 70_reset_and_hazards.md R240 on a core as
created, with nothing in memory. PC is what 0xFFFC and 0xFFFD read as (notes/assumptions/2.md), I is
1, 7 ticks have passed, and the two vector reads stand in the bus record (newest first). -/
def State.reset : State where
  a := 0x00
  x := 0x00
  y := 0x00
  sp := 0x00
  pc := 0x0000
  flags := { n := false, v := false, d := false, i := true, z := false, c := false }
  cycles := 7
  nmiPending := false
  irqLine := false
  mem := []
  deviceWindows := []
  bus := [
    { kind := .read, addr := 0xFFFD, data := Config.unlistedByte },
    { kind := .read, addr := 0xFFFC, data := Config.unlistedByte }]

end Sys2Proof.Machine
end

