-- ==== Sys2Proof/Machine/Flags.lean ====
section
/-!
DEFINITION. Every flag computation of the spec: SetNZ, the packed status byte, Compare, BIT, the
binary and decimal adders, and the shift and rotate functions with their carry.
-/

namespace Sys2Proof.Machine

/-- `SetNZ(v)`: N is bit 7 of the result, Z is 1 exactly for 0 (10_state.md R31). -/
def Flags.setNZ (v : Byte) (f : Flags) : Flags :=
  { f with n := v.getLsbD 7, z := v == 0x00 }

/-- A flag as a byte with that bit at position `k`. -/
def flagBit (b : Bool) (k : Nat) : Byte := BitVec.ofNat 8 b.toNat <<< k

/-- `PackP(b)`: the packed status byte N V 1 b D I Z C (10_state.md R30). -/
def Flags.packP (b : Bool) (f : Flags) : Byte :=
  flagBit f.n 7 ||| flagBit f.v 6 ||| flagBit true 5 ||| flagBit b 4 |||
    flagBit f.d 3 ||| flagBit f.i 2 ||| flagBit f.z 1 ||| flagBit f.c 0

/-- `UnpackP(v)`: bits 5 and 4 are discarded (10_state.md R30). -/
def Flags.unpackP (v : Byte) : Flags where
  n := v.getLsbD 7
  v := v.getLsbD 6
  d := v.getLsbD 3
  i := v.getLsbD 2
  z := v.getLsbD 1
  c := v.getLsbD 0

/-- `Compare(r, v)`: C is `r >= v` unsigned, N and Z those of `r - v` (41_load_logic_compare.md R111). -/
def Flags.compare (r v : Byte) (f : Flags) : Flags :=
  Flags.setNZ (r - v) { f with c := decide (v.toNat ≤ r.toNat) }

/-- BIT: Z from `a & v`, N from bit 7 and V from bit 6 of `v` (41_load_logic_compare.md R110). -/
def Flags.bitTest (a v : Byte) (f : Flags) : Flags :=
  { f with z := a &&& v == 0x00, n := v.getLsbD 7, v := v.getLsbD 6 }

/-- `AddBin(a, m, c)`: the sum, the carry out and the signed overflow (42_adc_sbc.md R117). -/
def addBin (a m : Byte) (c : Bool) : Byte × Bool × Bool :=
  let sum := a.toNat + m.toNat + c.toNat
  let r := BitVec.ofNat 8 sum
  (r, sum.testBit 8, ((a ^^^ r) &&& (m ^^^ r)).getLsbD 7)

/-- The low digit of a decimal addition with its carry into the high digit (42_adc_sbc.md R118). -/
def addDecLow (a v : Byte) (c : Bool) : Nat :=
  let al := a.toNat % 16 + v.toNat % 16 + c.toNat
  if 0x0A ≤ al then (al + 0x06) % 16 + 0x10 else al

/-- `AddDec(v)`: the accumulator and the flags of a decimal addition. N and V come from the sum before
the high digit is adjusted, Z from the binary sum (42_adc_sbc.md R118). -/
def addDec (a v : Byte) (f : Flags) : Byte × Flags :=
  let binr := BitVec.ofNat 8 (a.toNat + v.toNat + f.c.toNat)
  let t := a.toNat / 16 * 16 + v.toNat / 16 * 16 + addDecLow a v f.c
  let t8 := BitVec.ofNat 8 t
  let u := if 0xA0 ≤ t then t + 0x60 else t
  (BitVec.ofNat 8 u,
    { f with
      n := t8.getLsbD 7
      v := ((a ^^^ t8) &&& (v ^^^ t8)).getLsbD 7
      c := decide (0x100 ≤ u)
      z := binr == 0x00 })

/-- The low digit of a decimal subtraction with its borrow from the high digit (42_adc_sbc.md R119);
`& 0x0F` on a negative number is its remainder modulo 16. -/
def subDecLow (a v : Byte) (c : Bool) : Int :=
  let al : Int := (a.toNat % 16 : Nat) - (v.toNat % 16 : Nat) + c.toNat - 1
  if al < 0 then (al - 0x06) % 16 - 0x10 else al

/-- `SubDec(a, v, c_in)`: the accumulator result of a decimal subtraction (42_adc_sbc.md R119). -/
def subDec (a v : Byte) (c : Bool) : Byte :=
  let t : Int := (a.toNat / 16 * 16 : Nat) - (v.toNat / 16 * 16 : Nat) + subDecLow a v c
  BitVec.ofInt 8 (if t < 0 then t - 0x60 else t)

/-- INC: `v + 1` modulo 256, no carry (43_rmw.md R126). -/
def Flags.incByte (v : Byte) (f : Flags) : Byte × Flags := (v + 1, f)

/-- DEC: `v - 1` modulo 256, no borrow (43_rmw.md R127). -/
def Flags.decByte (v : Byte) (f : Flags) : Byte × Flags := (v - 1, f)

/-- ASL: C is the old bit 7, bit 0 becomes 0 (43_rmw.md R128). -/
def Flags.aslByte (v : Byte) (f : Flags) : Byte × Flags := (v <<< 1, { f with c := v.getLsbD 7 })

/-- LSR: C is the old bit 0, bit 7 becomes 0 (43_rmw.md R129). -/
def Flags.lsrByte (v : Byte) (f : Flags) : Byte × Flags := (v >>> 1, { f with c := v.getLsbD 0 })

/-- ROL: rotate C:v one place to the left (43_rmw.md R130). -/
def Flags.rolByte (v : Byte) (f : Flags) : Byte × Flags :=
  (v <<< 1 ||| flagBit f.c 0, { f with c := v.getLsbD 7 })

/-- ROR: rotate v:C one place to the right (43_rmw.md R131). -/
def Flags.rorByte (v : Byte) (f : Flags) : Byte × Flags :=
  (v >>> 1 ||| flagBit f.c 7, { f with c := v.getLsbD 0 })

end Sys2Proof.Machine
end

