-- ==== Sys2Proof/Machine/Ops.lean ====
section
/-!
DEFINITION. The named operations of the rules: memory, bus, ticks, the stack, fetching, the interrupt
poll, entering a handler, returning from one, RESET.
-/

namespace Sys2Proof.Machine

/-- The byte at an address of memory; an unlisted address reads as `Config.unlistedByte`. -/
def Memory.read : Memory → Nat → Byte
  | [], _ => Config.unlistedByte
  | (k, v) :: rest, a => if k = a then v else Memory.read rest a

/-- Put a byte at an address and keep the canonical form: the byte an unlisted address reads as is
not listed. -/
def Memory.write : Memory → Nat → Byte → Memory
  | [], a, v => if v = Config.unlistedByte then [] else [(a, v)]
  | (k, w) :: rest, a, v =>
    if a < k then
      if v = Config.unlistedByte then (k, w) :: rest else (a, v) :: (k, w) :: rest
    else if a = k then
      if v = Config.unlistedByte then rest else (a, v) :: rest
    else (k, w) :: Memory.write rest a v

/-- The byte of plain memory at an address (the host's view, 48_step_engine.md R202). -/
def State.peek (s : State) (a : Word) : Byte := s.mem.read a.toNat

/-- The host puts a byte into memory between steps (48_step_engine.md R202): no tick, no transaction. -/
def State.poke (s : State) (a : Word) (v : Byte) : State := { s with mem := s.mem.write a.toNat v }

/-- Is the address in this window? -/
def DeviceWindow.covers (d : DeviceWindow) (a : Word) : Bool :=
  decide (d.first.toNat ≤ a.toNat) && decide (a.toNat ≤ d.last.toNat)

/-- Does the platform have a device at this address (20_memory.md R41)? -/
def State.inDevice (s : State) (a : Word) : Bool := s.deviceWindows.any fun d => d.covers a

/-- The byte the bus answers to a read: plain RAM answers what was last written, a device what the
free value `Config.deviceAnswer` gives for the history (20_memory.md R41). -/
def State.busAnswer (s : State) (a : Word) : Byte :=
  if s.inDevice a then Config.deviceAnswer s.bus a else s.peek a

/-- `Tick(n)`: n internal cycles, no transaction (00_scope.md R8). -/
def State.tick (n : Nat) (s : State) : State := { s with cycles := s.cycles + n }

/-- `MemRead(a, 1)`: one read transaction, one tick, the byte answered (00_scope.md R8). -/
def State.memRead (a : Word) (s : State) : Byte × State :=
  let v := s.busAnswer a
  (v, { s with cycles := s.cycles + 1, bus := { kind := .read, addr := a, data := v } :: s.bus })

/-- `MemWrite(a, 1, v)`: one write transaction, one tick (00_scope.md R8). Plain RAM keeps the byte; a
write to a device leaves plain memory alone and is seen by the device in the history (20_memory.md
R41, R48). -/
def State.memWrite (a : Word) (v : Byte) (s : State) : State :=
  { s with
    cycles := s.cycles + 1
    bus := { kind := .write, addr := a, data := v } :: s.bus
    mem := if s.inDevice a then s.mem else s.mem.write a.toNat v }

/-- `Fetch8()`: read the byte at PC and advance PC modulo 65536 (40_addressing_modes.md R80). -/
def State.fetch8 (s : State) : Byte × State :=
  let (v, s) := s.memRead s.pc
  (v, { s with pc := s.pc + 1 })

/-- `Fetch16()`: two fetches, low byte first (40_addressing_modes.md R80). -/
def State.fetch16 (s : State) : Word × State :=
  let (lo, s) := s.fetch8
  let (hi, s) := s.fetch8
  (wordOf hi lo, s)

/-- Fetch one whole instruction: the opcode byte, the table lookup, and the operand bytes its mode
takes (48_step_engine.md R196; 30_encoding.md R60 to R63). An illegal opcode takes none
(60_exceptions.md R211). -/
def State.fetchInstr (s : State) : Instr × State :=
  let (op, s) := s.fetch8
  match (dispatchEntry op).map DispatchEntry.build with
  | none => (.illegal op, s)
  | some (.none i) => (i, s)
  | some (.byte make) => let (d, s) := s.fetch8; (make d, s)
  | some (.word make) => let (w, s) := s.fetch16; (make w, s)

/-- Apply a change of the flags. -/
def State.setFlags (g : Flags → Flags) (s : State) : State := { s with flags := g s.flags }

/-- `SetReg(A, v)`: A takes the byte, N and Z follow it (45_implied.md R140). -/
def State.loadA (v : Byte) (s : State) : State := { s with a := v, flags := s.flags.setNZ v }

/-- `SetReg(X, v)` (45_implied.md R140). -/
def State.loadX (v : Byte) (s : State) : State := { s with x := v, flags := s.flags.setNZ v }

/-- `SetReg(Y, v)` (45_implied.md R140). -/
def State.loadY (v : Byte) (s : State) : State := { s with y := v, flags := s.flags.setNZ v }

/-- The address the stack pointer designates, always in page 1 (10_state.md R24). -/
def stackAddr (sp : Byte) : Word := 0x0100 + sp.setWidth 16

/-- `Push(v)`: write at `0x0100 + S`, then S - 1 modulo 256 (10_state.md R26). -/
def State.push (v : Byte) (s : State) : State :=
  let s := s.memWrite (stackAddr s.sp) v
  { s with sp := s.sp - 1 }

/-- `Pull()`: S + 1 modulo 256, then read at `0x0100 + S` (10_state.md R26). -/
def State.pull (s : State) : Byte × State :=
  let s := { s with sp := s.sp + 1 }
  s.memRead (stackAddr s.sp)

/-- The NMI vector's low byte (20_memory.md R48). -/
def nmiVector : Word := 0xFFFA

/-- The RESET vector's low byte (20_memory.md R48). -/
def resetVector : Word := 0xFFFC

/-- The low byte of the vector shared by IRQ and BRK (20_memory.md R48). -/
def irqVector : Word := 0xFFFE

/-- Read the 16-bit entry address of a vector, low byte first (20_memory.md R44). -/
def State.readVector (vector : Word) (s : State) : Word × State :=
  let (lo, s) := s.memRead vector
  let (hi, s) := s.memRead (vector + 1)
  (wordOf hi lo, s)

/-- ENTERING A HANDLER, shared by BRK, IRQ and NMI: push PC high byte first, push P with the B position
`b` and I as it was, set I, load PC from the vector (46_stack_subroutine.md R172; 60_exceptions.md
R216). The first ticks differ and are the caller's. -/
def takeException (vector : Word) (b : Bool) (s : State) : State :=
  let s := (s.push (highByte s.pc)).push (lowByte s.pc)
  let s := s.push (s.flags.packP b)
  let s := s.setFlags fun f => { f with i := true }
  let (target, s) := s.readVector vector
  { s with pc := target }

/-- RETURNING FROM A HANDLER, after RTI's two ticks: pull P (bits 5 and 4 discarded), PC low, PC high;
no increment (46_stack_subroutine.md R173; 60_exceptions.md R221). -/
def returnFromException (s : State) : State :=
  let (p, s) := s.pull
  let s := { s with flags := Flags.unpackP p }
  let (lo, s) := s.pull
  let (hi, s) := s.pull
  { s with pc := wordOf hi lo }

/-- `InterruptEntry(vector, b)` of IRQ and NMI: two ticks, then the shared entry (60_exceptions.md R216). -/
def interruptEntry (vector : Word) (b : Bool) (s : State) : State :=
  takeException vector b (s.tick 2)

/-- Take an IRQ (60_exceptions.md R217). -/
def takeIrq (s : State) : State := interruptEntry irqVector false s

/-- Take an NMI: clear `nmi_pending`, then enter (60_exceptions.md R217). -/
def takeNmi (s : State) : State := interruptEntry nmiVector false { s with nmiPending := false }

/-- What a step does, chosen at its start (48_step_engine.md R195). -/
inductive Poll where
  | nmi
  | irq
  | instruction
  deriving DecidableEq, Repr

/-- The interrupt poll: NMI before IRQ, IRQ only when I is 0, on the I the previous step left
(60_exceptions.md R214, R218). -/
def State.poll (s : State) : Poll :=
  if s.nmiPending then .nmi else if s.irqLine && !s.flags.i then .irq else .instruction

/-- The RESET operation (70_reset_and_hazards.md R240). -/
def State.resetOp (s : State) : State :=
  let s := s.tick 5
  let s := { s with flags := { s.flags with i := true }, nmiPending := false }
  let (target, s) := s.readVector resetVector
  { s with pc := target }

/-- The 64-bit counter as the host reads it: the number of ticks while it fits, past that the free
value `Config.cycleOverflow` (10_state.md R32; D18). -/
def State.cycleCounter (s : State) : BitVec 64 :=
  if s.cycles < 2 ^ 64 then BitVec.ofNat 64 s.cycles else Config.cycleOverflow s.cycles

/-- `cycles_elapsed` of a step from `s` to `t` (48_step_engine.md R198). -/
def cyclesElapsed (s t : State) : Nat := t.cycles - s.cycles

/-- The state a fault leaves; the host that answers "skip" steps on from it (60_exceptions.md R211). -/
def Fault.stateLeft : Fault → State
  | .illegalOpcode _ s => s

end Sys2Proof.Machine
end

