-- ==== Sys2Proof/Machine/Operands.lean ====
section
/-!
DEFINITION. The Addressing-Mode Resolver of 40_addressing_modes.md and the shape templates that use it.
A function here runs after the operand bytes have been fetched (R93: every operand byte is fetched
before anything else the mode does), so it takes their value and does the mode's pointer reads and
internal ticks.
-/

namespace Sys2Proof.Machine

/-- The shapes that use an effective address; only the page-crossing rule looks at them (R81, R87). -/
inductive Access where
  | read
  | write
  | rmw
  deriving DecidableEq, Repr

/-- The eight modes with an effective address, each with the value of its operand bytes. -/
inductive MemOperand where
  | zp (z : Byte)
  | zpx (z : Byte)
  | zpy (z : Byte)
  | abs (addr : Word)
  | absx (addr : Word)
  | absy (addr : Word)
  | indx (z : Byte)
  | indy (z : Byte)
  deriving DecidableEq, Repr

/-- `zext_16(z)` (00_scope.md R6): a zero-page address. -/
def zeroPage (z : Byte) : Word := z.setWidth 16

/-- `crossed`: the low byte of the base plus the index exceeds 0xFF (R87). -/
def crossed (base : Word) (index : Byte) : Bool :=
  decide (0xFF < (lowByte base).toNat + index.toNat)

/-- The tick of the page-crossing rule: on a read only when crossed, on a write and a read-modify-write
always (R87). -/
def crossingTick (access : Access) (base : Word) (index : Byte) (s : State) : State :=
  match access with
  | .read => if crossed base index then s.tick 1 else s
  | .write => s.tick 1
  | .rmw => s.tick 1

/-- The address `base + index` modulo 65536 (R86, R94). -/
def indexed (base : Word) (index : Byte) : Word := base + index.setWidth 16

/-- A 16-bit pointer in page 0, its high byte taken from the next address within page 0 (R88, R89). -/
def zeroPagePointer (p : Byte) (s : State) : Word × State :=
  let (lo, s) := s.memRead (zeroPage p)
  let (hi, s) := s.memRead (zeroPage (p + 1))
  (wordOf hi lo, s)

/-- `EA_<mode>(shape)`: the effective address and the state after the mode's reads and ticks
(R83 to R89). -/
def effectiveAddress (access : Access) (m : MemOperand) (s : State) : Word × State :=
  match m with
  | .zp z => (zeroPage z, s)
  | .zpx z => (zeroPage (z + s.x), s.tick 1)
  | .zpy z => (zeroPage (z + s.y), s.tick 1)
  | .abs addr => (addr, s)
  | .absx addr => (indexed addr s.x, crossingTick access addr s.x s)
  | .absy addr => (indexed addr s.y, crossingTick access addr s.y s)
  | .indx z => zeroPagePointer (z + s.x) (s.tick 1)
  | .indy z =>
    let (base, s) := zeroPagePointer z s
    (indexed base s.y, crossingTick access base s.y s)

/-- `Target_ind()`: the JMP pointer, whose high byte comes from the same page (R90). -/
def targetInd (ptr : Word) (s : State) : Word × State :=
  let (lo, s) := s.memRead ptr
  let (hi, s) := s.memRead (wordOf (highByte ptr) (lowByte ptr + 1))
  (wordOf hi lo, s)

/-- `Target_rel()`: the branch target and the address of the next instruction (R91). -/
def targetRel (off : Byte) (s : State) : Word × Word := (s.pc + off.signExtend 16, s.pc)

/-- The operand byte of a read-shape instruction in a memory mode: one data read at the effective
address (41_load_logic_compare.md R100). -/
def loadOperand (m : MemOperand) (s : State) : Byte × State :=
  let (a, s) := effectiveAddress .read m s
  s.memRead a

/-- `ReadShape(imm, op)`: the operand byte was fetched with the instruction (R82, R100). -/
def readImm (d8 : Byte) (op : Byte → State → State) (s : State) : State := op d8 s

/-- `ReadShape(m, op)` in a memory mode (R100). -/
def readMem (m : MemOperand) (op : Byte → State → State) (s : State) : State :=
  let (v, s) := loadOperand m s
  op v s

/-- `RmwShape(acc, f)` (43_rmw.md R125). -/
def rmwAcc (f : Byte → Flags → Byte × Flags) (s : State) : State :=
  let s := s.tick 1
  let (r, fl) := f s.a s.flags
  { s with a := r, flags := fl.setNZ r }

/-- `RmwShape(m, f)` in a memory mode: read, one modify tick, write to the same address (R125). -/
def rmwMem (m : MemOperand) (f : Byte → Flags → Byte × Flags) (s : State) : State :=
  let (a, s) := effectiveAddress .rmw m s
  let (v, s) := s.memRead a
  let s := s.tick 1
  let (r, fl) := f v s.flags
  let s := { s with flags := fl.setNZ r }
  s.memWrite a r

/-- `WriteShape(m, r)`: one data write of a register, no read (44_store.md R135). -/
def writeMem (m : MemOperand) (reg : State → Byte) (s : State) : State :=
  let (a, s) := effectiveAddress .write m s
  s.memWrite a (reg s)

/-- `ImpliedShape(op)` (45_implied.md R140). -/
def impliedShape (op : State → State) (s : State) : State := op (s.tick 1)

end Sys2Proof.Machine
end

