-- ==== Sys2Proof/Machine/Arithmetic.lean ====
section
/-!
DEFINITION. ADC and SBC of 42_adc_sbc.md, binary and decimal. The adders are in Flags.lean.
-/

namespace Sys2Proof.Machine

/-- ADC: the binary sum when D = 0, the decimal one when D = 1 (R115, R117, R118). -/
def opAdc (v : Byte) (s : State) : State :=
  if s.flags.d then
    let (r, f) := addDec s.a v s.flags
    { s with a := r, flags := f }
  else
    let (r, cOut, vOut) := addBin s.a v s.flags.c
    { s with a := r, flags := Flags.setNZ r { s.flags with c := cOut, v := vOut } }

/-- SBC: the flags are those of the binary subtraction `AddBin(A, ~v, C)` in both modes; the
accumulator is its result when D = 0 and `SubDec` when D = 1 (R116, R119). -/
def opSbc (v : Byte) (s : State) : State :=
  let (r, cOut, vOut) := addBin s.a (~~~v) s.flags.c
  { s with
    a := if s.flags.d then subDec s.a v s.flags.c else r
    flags := Flags.setNZ r { s.flags with c := cOut, v := vOut } }

/-- ADC imm, opcode 69 (R115, mode R82): add with carry. -/
def execAdcImm (d8 : Byte) (s : State) : Host.Outcome State Fault Refusal :=
  .next (readImm d8 opAdc s)

/-- ADC zp, opcode 65 (R115, mode R83): add with carry. -/
def execAdcZp (z : Byte) (s : State) : Host.Outcome State Fault Refusal :=
  .next (readMem (.zp z) opAdc s)

/-- ADC zpx, opcode 75 (R115, mode R84): add with carry. -/
def execAdcZpx (z : Byte) (s : State) : Host.Outcome State Fault Refusal :=
  .next (readMem (.zpx z) opAdc s)

/-- ADC abs, opcode 6D (R115, mode R85): add with carry. -/
def execAdcAbs (addr : Word) (s : State) : Host.Outcome State Fault Refusal :=
  .next (readMem (.abs addr) opAdc s)

/-- ADC absx, opcode 7D (R115, mode R86): add with carry. -/
def execAdcAbsx (addr : Word) (s : State) : Host.Outcome State Fault Refusal :=
  .next (readMem (.absx addr) opAdc s)

/-- ADC absy, opcode 79 (R115, mode R86): add with carry. -/
def execAdcAbsy (addr : Word) (s : State) : Host.Outcome State Fault Refusal :=
  .next (readMem (.absy addr) opAdc s)

/-- ADC indx, opcode 61 (R115, mode R88): add with carry. -/
def execAdcIndx (z : Byte) (s : State) : Host.Outcome State Fault Refusal :=
  .next (readMem (.indx z) opAdc s)

/-- ADC indy, opcode 71 (R115, mode R89): add with carry. -/
def execAdcIndy (z : Byte) (s : State) : Host.Outcome State Fault Refusal :=
  .next (readMem (.indy z) opAdc s)

/-- SBC imm, opcode E9 (R116, mode R82): subtract with borrow. -/
def execSbcImm (d8 : Byte) (s : State) : Host.Outcome State Fault Refusal :=
  .next (readImm d8 opSbc s)

/-- SBC zp, opcode E5 (R116, mode R83): subtract with borrow. -/
def execSbcZp (z : Byte) (s : State) : Host.Outcome State Fault Refusal :=
  .next (readMem (.zp z) opSbc s)

/-- SBC zpx, opcode F5 (R116, mode R84): subtract with borrow. -/
def execSbcZpx (z : Byte) (s : State) : Host.Outcome State Fault Refusal :=
  .next (readMem (.zpx z) opSbc s)

/-- SBC abs, opcode ED (R116, mode R85): subtract with borrow. -/
def execSbcAbs (addr : Word) (s : State) : Host.Outcome State Fault Refusal :=
  .next (readMem (.abs addr) opSbc s)

/-- SBC absx, opcode FD (R116, mode R86): subtract with borrow. -/
def execSbcAbsx (addr : Word) (s : State) : Host.Outcome State Fault Refusal :=
  .next (readMem (.absx addr) opSbc s)

/-- SBC absy, opcode F9 (R116, mode R86): subtract with borrow. -/
def execSbcAbsy (addr : Word) (s : State) : Host.Outcome State Fault Refusal :=
  .next (readMem (.absy addr) opSbc s)

/-- SBC indx, opcode E1 (R116, mode R88): subtract with borrow. -/
def execSbcIndx (z : Byte) (s : State) : Host.Outcome State Fault Refusal :=
  .next (readMem (.indx z) opSbc s)

/-- SBC indy, opcode F1 (R116, mode R89): subtract with borrow. -/
def execSbcIndy (z : Byte) (s : State) : Host.Outcome State Fault Refusal :=
  .next (readMem (.indy z) opSbc s)

end Sys2Proof.Machine
end

