-- ==== Sys2Proof/Machine/Illegal.lean ====
section
/-!
DEFINITION. The 105 opcode bytes without a dispatch entry (30_encoding.md R67; 60_exceptions.md R211).
-/

namespace Sys2Proof.Machine

/-- `raise IllegalOpcode(op)` (R211): the step ends with the fault. `s` is the state after the opcode
fetch, PC past the byte and one tick charged; nothing else changes, and the fault carries it. -/
def execIllegal (op : Byte) (s : State) : Host.Outcome State Fault Refusal :=
  .fault (.illegalOpcode op s)

end Sys2Proof.Machine
end

