-- ==== Sys2Proof/Machine/Implied.lean ====
section
/-!
DEFINITION. The implied instructions of 45_implied.md: flags, NOP, register increments, transfers.
-/

namespace Sys2Proof.Machine

/-- CLC imp, opcode 18 (R141, mode R82): clear C. -/
def execClc (s : State) : Host.Outcome State Fault Refusal :=
  .next (impliedShape (State.setFlags fun f => { f with c := false }) s)

/-- CLD imp, opcode D8 (R142, mode R82): clear D. -/
def execCld (s : State) : Host.Outcome State Fault Refusal :=
  .next (impliedShape (State.setFlags fun f => { f with d := false }) s)

/-- CLI imp, opcode 58 (R143, mode R82): clear I. -/
def execCli (s : State) : Host.Outcome State Fault Refusal :=
  .next (impliedShape (State.setFlags fun f => { f with i := false }) s)

/-- CLV imp, opcode B8 (R144, mode R82): clear V. -/
def execClv (s : State) : Host.Outcome State Fault Refusal :=
  .next (impliedShape (State.setFlags fun f => { f with v := false }) s)

/-- SEC imp, opcode 38 (R145, mode R82): set C. -/
def execSec (s : State) : Host.Outcome State Fault Refusal :=
  .next (impliedShape (State.setFlags fun f => { f with c := true }) s)

/-- SED imp, opcode F8 (R146, mode R82): set D. -/
def execSed (s : State) : Host.Outcome State Fault Refusal :=
  .next (impliedShape (State.setFlags fun f => { f with d := true }) s)

/-- SEI imp, opcode 78 (R147, mode R82): set I. -/
def execSei (s : State) : Host.Outcome State Fault Refusal :=
  .next (impliedShape (State.setFlags fun f => { f with i := true }) s)

/-- NOP imp, opcode EA (R148, mode R82): no operation. -/
def execNop (s : State) : Host.Outcome State Fault Refusal :=
  .next (impliedShape (fun s => s) s)

/-- INX imp, opcode E8 (R149, mode R82): increment X. -/
def execInx (s : State) : Host.Outcome State Fault Refusal :=
  .next (impliedShape (fun s => s.loadX (s.x + 1)) s)

/-- INY imp, opcode C8 (R150, mode R82): increment Y. -/
def execIny (s : State) : Host.Outcome State Fault Refusal :=
  .next (impliedShape (fun s => s.loadY (s.y + 1)) s)

/-- DEX imp, opcode CA (R151, mode R82): decrement X. -/
def execDex (s : State) : Host.Outcome State Fault Refusal :=
  .next (impliedShape (fun s => s.loadX (s.x - 1)) s)

/-- DEY imp, opcode 88 (R152, mode R82): decrement Y. -/
def execDey (s : State) : Host.Outcome State Fault Refusal :=
  .next (impliedShape (fun s => s.loadY (s.y - 1)) s)

/-- TAX imp, opcode AA (R153, mode R82): A to X. -/
def execTax (s : State) : Host.Outcome State Fault Refusal :=
  .next (impliedShape (fun s => s.loadX s.a) s)

/-- TAY imp, opcode A8 (R154, mode R82): A to Y. -/
def execTay (s : State) : Host.Outcome State Fault Refusal :=
  .next (impliedShape (fun s => s.loadY s.a) s)

/-- TSX imp, opcode BA (R155, mode R82): S to X. -/
def execTsx (s : State) : Host.Outcome State Fault Refusal :=
  .next (impliedShape (fun s => s.loadX s.sp) s)

/-- TXA imp, opcode 8A (R156, mode R82): X to A. -/
def execTxa (s : State) : Host.Outcome State Fault Refusal :=
  .next (impliedShape (fun s => s.loadA s.x) s)

/-- TXS imp, opcode 9A (R157, mode R82): X to S, no flag. -/
def execTxs (s : State) : Host.Outcome State Fault Refusal :=
  .next (impliedShape (fun s => { s with sp := s.x }) s)

/-- TYA imp, opcode 98 (R158, mode R82): Y to A. -/
def execTya (s : State) : Host.Outcome State Fault Refusal :=
  .next (impliedShape (fun s => s.loadA s.y) s)

end Sys2Proof.Machine
end

