-- ==== Sys2Proof/Machine/JumpBranch.lean ====
section
/-!
DEFINITION. JMP and the eight conditional branches of 47_jump_branch.md.
-/

namespace Sys2Proof.Machine

/-- The branch template of R181. `cond` is the condition on the flags at the start of the step; the
two penalty ticks have no bus transaction. -/
def branchShape (cond : Bool) (off : Byte) (s : State) : State :=
  let (target, pcNext) := targetRel off s
  if cond then
    let s := s.tick 1
    let s := if highByte target != highByte pcNext then s.tick 1 else s
    { s with pc := target }
  else s

/-- JMP abs, opcode 4C (R180, mode R85): jump. -/
def execJmpAbs (target : Word) (s : State) : Host.Outcome State Fault Refusal :=
  .next ({ s with pc := target })

/-- JMP ind, opcode 6C (R180, mode R90): jump. -/
def execJmpInd (ptr : Word) (s : State) : Host.Outcome State Fault Refusal :=
  .next (let (target, s) := targetInd ptr s
    { s with pc := target })

/-- BPL rel, opcode 10 (R182, mode R91): branch if N = 0. -/
def execBpl (off : Byte) (s : State) : Host.Outcome State Fault Refusal :=
  .next (branchShape (!s.flags.n) off s)

/-- BMI rel, opcode 30 (R183, mode R91): branch if N = 1. -/
def execBmi (off : Byte) (s : State) : Host.Outcome State Fault Refusal :=
  .next (branchShape s.flags.n off s)

/-- BVC rel, opcode 50 (R184, mode R91): branch if V = 0. -/
def execBvc (off : Byte) (s : State) : Host.Outcome State Fault Refusal :=
  .next (branchShape (!s.flags.v) off s)

/-- BVS rel, opcode 70 (R185, mode R91): branch if V = 1. -/
def execBvs (off : Byte) (s : State) : Host.Outcome State Fault Refusal :=
  .next (branchShape s.flags.v off s)

/-- BCC rel, opcode 90 (R186, mode R91): branch if C = 0. -/
def execBcc (off : Byte) (s : State) : Host.Outcome State Fault Refusal :=
  .next (branchShape (!s.flags.c) off s)

/-- BCS rel, opcode B0 (R187, mode R91): branch if C = 1. -/
def execBcs (off : Byte) (s : State) : Host.Outcome State Fault Refusal :=
  .next (branchShape s.flags.c off s)

/-- BNE rel, opcode D0 (R188, mode R91): branch if Z = 0. -/
def execBne (off : Byte) (s : State) : Host.Outcome State Fault Refusal :=
  .next (branchShape (!s.flags.z) off s)

/-- BEQ rel, opcode F0 (R189, mode R91): branch if Z = 1. -/
def execBeq (off : Byte) (s : State) : Host.Outcome State Fault Refusal :=
  .next (branchShape s.flags.z off s)

end Sys2Proof.Machine
end

