-- ==== Sys2Proof/Machine/LoadLogicCompare.lean ====
section
/-!
DEFINITION. The read-shape instructions of 41_load_logic_compare.md: LDA LDX LDY ORA AND EOR CMP CPX CPY BIT.
First the Operation of each mnemonic on the operand byte `v`, then one meaning per opcode.
-/

namespace Sys2Proof.Machine

/-- LDA: `A <- v; SetNZ(A)` (R101). -/
def opLda (v : Byte) (s : State) : State := s.loadA v

/-- LDX: `X <- v; SetNZ(X)` (R102). -/
def opLdx (v : Byte) (s : State) : State := s.loadX v

/-- LDY: `Y <- v; SetNZ(Y)` (R103). -/
def opLdy (v : Byte) (s : State) : State := s.loadY v

/-- ORA: `A <- A | v; SetNZ(A)` (R104). -/
def opOra (v : Byte) (s : State) : State := s.loadA (s.a ||| v)

/-- AND: `A <- A & v; SetNZ(A)` (R105). -/
def opAnd (v : Byte) (s : State) : State := s.loadA (s.a &&& v)

/-- EOR: `A <- A ^ v; SetNZ(A)` (R106). -/
def opEor (v : Byte) (s : State) : State := s.loadA (s.a ^^^ v)

/-- CMP: `Compare(A, v)` (R107, R111). -/
def opCmp (v : Byte) (s : State) : State := s.setFlags (Flags.compare s.a v)

/-- CPX: `Compare(X, v)` (R108, R111). -/
def opCpx (v : Byte) (s : State) : State := s.setFlags (Flags.compare s.x v)

/-- CPY: `Compare(Y, v)` (R109, R111). -/
def opCpy (v : Byte) (s : State) : State := s.setFlags (Flags.compare s.y v)

/-- BIT: Z from `A & v`, N and V from bits 7 and 6 of `v` (R110). -/
def opBit (v : Byte) (s : State) : State := s.setFlags (Flags.bitTest s.a v)

/-- LDA imm, opcode A9 (R101, mode R82): load A. -/
def execLdaImm (d8 : Byte) (s : State) : Host.Outcome State Fault Refusal :=
  .next (readImm d8 opLda s)

/-- LDA zp, opcode A5 (R101, mode R83): load A. -/
def execLdaZp (z : Byte) (s : State) : Host.Outcome State Fault Refusal :=
  .next (readMem (.zp z) opLda s)

/-- LDA zpx, opcode B5 (R101, mode R84): load A. -/
def execLdaZpx (z : Byte) (s : State) : Host.Outcome State Fault Refusal :=
  .next (readMem (.zpx z) opLda s)

/-- LDA abs, opcode AD (R101, mode R85): load A. -/
def execLdaAbs (addr : Word) (s : State) : Host.Outcome State Fault Refusal :=
  .next (readMem (.abs addr) opLda s)

/-- LDA absx, opcode BD (R101, mode R86): load A. -/
def execLdaAbsx (addr : Word) (s : State) : Host.Outcome State Fault Refusal :=
  .next (readMem (.absx addr) opLda s)

/-- LDA absy, opcode B9 (R101, mode R86): load A. -/
def execLdaAbsy (addr : Word) (s : State) : Host.Outcome State Fault Refusal :=
  .next (readMem (.absy addr) opLda s)

/-- LDA indx, opcode A1 (R101, mode R88): load A. -/
def execLdaIndx (z : Byte) (s : State) : Host.Outcome State Fault Refusal :=
  .next (readMem (.indx z) opLda s)

/-- LDA indy, opcode B1 (R101, mode R89): load A. -/
def execLdaIndy (z : Byte) (s : State) : Host.Outcome State Fault Refusal :=
  .next (readMem (.indy z) opLda s)

/-- LDX imm, opcode A2 (R102, mode R82): load X. -/
def execLdxImm (d8 : Byte) (s : State) : Host.Outcome State Fault Refusal :=
  .next (readImm d8 opLdx s)

/-- LDX zp, opcode A6 (R102, mode R83): load X. -/
def execLdxZp (z : Byte) (s : State) : Host.Outcome State Fault Refusal :=
  .next (readMem (.zp z) opLdx s)

/-- LDX zpy, opcode B6 (R102, mode R84): load X. -/
def execLdxZpy (z : Byte) (s : State) : Host.Outcome State Fault Refusal :=
  .next (readMem (.zpy z) opLdx s)

/-- LDX abs, opcode AE (R102, mode R85): load X. -/
def execLdxAbs (addr : Word) (s : State) : Host.Outcome State Fault Refusal :=
  .next (readMem (.abs addr) opLdx s)

/-- LDX absy, opcode BE (R102, mode R86): load X. -/
def execLdxAbsy (addr : Word) (s : State) : Host.Outcome State Fault Refusal :=
  .next (readMem (.absy addr) opLdx s)

/-- LDY imm, opcode A0 (R103, mode R82): load Y. -/
def execLdyImm (d8 : Byte) (s : State) : Host.Outcome State Fault Refusal :=
  .next (readImm d8 opLdy s)

/-- LDY zp, opcode A4 (R103, mode R83): load Y. -/
def execLdyZp (z : Byte) (s : State) : Host.Outcome State Fault Refusal :=
  .next (readMem (.zp z) opLdy s)

/-- LDY zpx, opcode B4 (R103, mode R84): load Y. -/
def execLdyZpx (z : Byte) (s : State) : Host.Outcome State Fault Refusal :=
  .next (readMem (.zpx z) opLdy s)

/-- LDY abs, opcode AC (R103, mode R85): load Y. -/
def execLdyAbs (addr : Word) (s : State) : Host.Outcome State Fault Refusal :=
  .next (readMem (.abs addr) opLdy s)

/-- LDY absx, opcode BC (R103, mode R86): load Y. -/
def execLdyAbsx (addr : Word) (s : State) : Host.Outcome State Fault Refusal :=
  .next (readMem (.absx addr) opLdy s)

/-- ORA imm, opcode 09 (R104, mode R82): inclusive or into A. -/
def execOraImm (d8 : Byte) (s : State) : Host.Outcome State Fault Refusal :=
  .next (readImm d8 opOra s)

/-- ORA zp, opcode 05 (R104, mode R83): inclusive or into A. -/
def execOraZp (z : Byte) (s : State) : Host.Outcome State Fault Refusal :=
  .next (readMem (.zp z) opOra s)

/-- ORA zpx, opcode 15 (R104, mode R84): inclusive or into A. -/
def execOraZpx (z : Byte) (s : State) : Host.Outcome State Fault Refusal :=
  .next (readMem (.zpx z) opOra s)

/-- ORA abs, opcode 0D (R104, mode R85): inclusive or into A. -/
def execOraAbs (addr : Word) (s : State) : Host.Outcome State Fault Refusal :=
  .next (readMem (.abs addr) opOra s)

/-- ORA absx, opcode 1D (R104, mode R86): inclusive or into A. -/
def execOraAbsx (addr : Word) (s : State) : Host.Outcome State Fault Refusal :=
  .next (readMem (.absx addr) opOra s)

/-- ORA absy, opcode 19 (R104, mode R86): inclusive or into A. -/
def execOraAbsy (addr : Word) (s : State) : Host.Outcome State Fault Refusal :=
  .next (readMem (.absy addr) opOra s)

/-- ORA indx, opcode 01 (R104, mode R88): inclusive or into A. -/
def execOraIndx (z : Byte) (s : State) : Host.Outcome State Fault Refusal :=
  .next (readMem (.indx z) opOra s)

/-- ORA indy, opcode 11 (R104, mode R89): inclusive or into A. -/
def execOraIndy (z : Byte) (s : State) : Host.Outcome State Fault Refusal :=
  .next (readMem (.indy z) opOra s)

/-- AND imm, opcode 29 (R105, mode R82): and into A. -/
def execAndImm (d8 : Byte) (s : State) : Host.Outcome State Fault Refusal :=
  .next (readImm d8 opAnd s)

/-- AND zp, opcode 25 (R105, mode R83): and into A. -/
def execAndZp (z : Byte) (s : State) : Host.Outcome State Fault Refusal :=
  .next (readMem (.zp z) opAnd s)

/-- AND zpx, opcode 35 (R105, mode R84): and into A. -/
def execAndZpx (z : Byte) (s : State) : Host.Outcome State Fault Refusal :=
  .next (readMem (.zpx z) opAnd s)

/-- AND abs, opcode 2D (R105, mode R85): and into A. -/
def execAndAbs (addr : Word) (s : State) : Host.Outcome State Fault Refusal :=
  .next (readMem (.abs addr) opAnd s)

/-- AND absx, opcode 3D (R105, mode R86): and into A. -/
def execAndAbsx (addr : Word) (s : State) : Host.Outcome State Fault Refusal :=
  .next (readMem (.absx addr) opAnd s)

/-- AND absy, opcode 39 (R105, mode R86): and into A. -/
def execAndAbsy (addr : Word) (s : State) : Host.Outcome State Fault Refusal :=
  .next (readMem (.absy addr) opAnd s)

/-- AND indx, opcode 21 (R105, mode R88): and into A. -/
def execAndIndx (z : Byte) (s : State) : Host.Outcome State Fault Refusal :=
  .next (readMem (.indx z) opAnd s)

/-- AND indy, opcode 31 (R105, mode R89): and into A. -/
def execAndIndy (z : Byte) (s : State) : Host.Outcome State Fault Refusal :=
  .next (readMem (.indy z) opAnd s)

/-- EOR imm, opcode 49 (R106, mode R82): exclusive or into A. -/
def execEorImm (d8 : Byte) (s : State) : Host.Outcome State Fault Refusal :=
  .next (readImm d8 opEor s)

/-- EOR zp, opcode 45 (R106, mode R83): exclusive or into A. -/
def execEorZp (z : Byte) (s : State) : Host.Outcome State Fault Refusal :=
  .next (readMem (.zp z) opEor s)

/-- EOR zpx, opcode 55 (R106, mode R84): exclusive or into A. -/
def execEorZpx (z : Byte) (s : State) : Host.Outcome State Fault Refusal :=
  .next (readMem (.zpx z) opEor s)

/-- EOR abs, opcode 4D (R106, mode R85): exclusive or into A. -/
def execEorAbs (addr : Word) (s : State) : Host.Outcome State Fault Refusal :=
  .next (readMem (.abs addr) opEor s)

/-- EOR absx, opcode 5D (R106, mode R86): exclusive or into A. -/
def execEorAbsx (addr : Word) (s : State) : Host.Outcome State Fault Refusal :=
  .next (readMem (.absx addr) opEor s)

/-- EOR absy, opcode 59 (R106, mode R86): exclusive or into A. -/
def execEorAbsy (addr : Word) (s : State) : Host.Outcome State Fault Refusal :=
  .next (readMem (.absy addr) opEor s)

/-- EOR indx, opcode 41 (R106, mode R88): exclusive or into A. -/
def execEorIndx (z : Byte) (s : State) : Host.Outcome State Fault Refusal :=
  .next (readMem (.indx z) opEor s)

/-- EOR indy, opcode 51 (R106, mode R89): exclusive or into A. -/
def execEorIndy (z : Byte) (s : State) : Host.Outcome State Fault Refusal :=
  .next (readMem (.indy z) opEor s)

/-- CMP imm, opcode C9 (R107, mode R82): compare A. -/
def execCmpImm (d8 : Byte) (s : State) : Host.Outcome State Fault Refusal :=
  .next (readImm d8 opCmp s)

/-- CMP zp, opcode C5 (R107, mode R83): compare A. -/
def execCmpZp (z : Byte) (s : State) : Host.Outcome State Fault Refusal :=
  .next (readMem (.zp z) opCmp s)

/-- CMP zpx, opcode D5 (R107, mode R84): compare A. -/
def execCmpZpx (z : Byte) (s : State) : Host.Outcome State Fault Refusal :=
  .next (readMem (.zpx z) opCmp s)

/-- CMP abs, opcode CD (R107, mode R85): compare A. -/
def execCmpAbs (addr : Word) (s : State) : Host.Outcome State Fault Refusal :=
  .next (readMem (.abs addr) opCmp s)

/-- CMP absx, opcode DD (R107, mode R86): compare A. -/
def execCmpAbsx (addr : Word) (s : State) : Host.Outcome State Fault Refusal :=
  .next (readMem (.absx addr) opCmp s)

/-- CMP absy, opcode D9 (R107, mode R86): compare A. -/
def execCmpAbsy (addr : Word) (s : State) : Host.Outcome State Fault Refusal :=
  .next (readMem (.absy addr) opCmp s)

/-- CMP indx, opcode C1 (R107, mode R88): compare A. -/
def execCmpIndx (z : Byte) (s : State) : Host.Outcome State Fault Refusal :=
  .next (readMem (.indx z) opCmp s)

/-- CMP indy, opcode D1 (R107, mode R89): compare A. -/
def execCmpIndy (z : Byte) (s : State) : Host.Outcome State Fault Refusal :=
  .next (readMem (.indy z) opCmp s)

/-- CPX imm, opcode E0 (R108, mode R82): compare X. -/
def execCpxImm (d8 : Byte) (s : State) : Host.Outcome State Fault Refusal :=
  .next (readImm d8 opCpx s)

/-- CPX zp, opcode E4 (R108, mode R83): compare X. -/
def execCpxZp (z : Byte) (s : State) : Host.Outcome State Fault Refusal :=
  .next (readMem (.zp z) opCpx s)

/-- CPX abs, opcode EC (R108, mode R85): compare X. -/
def execCpxAbs (addr : Word) (s : State) : Host.Outcome State Fault Refusal :=
  .next (readMem (.abs addr) opCpx s)

/-- CPY imm, opcode C0 (R109, mode R82): compare Y. -/
def execCpyImm (d8 : Byte) (s : State) : Host.Outcome State Fault Refusal :=
  .next (readImm d8 opCpy s)

/-- CPY zp, opcode C4 (R109, mode R83): compare Y. -/
def execCpyZp (z : Byte) (s : State) : Host.Outcome State Fault Refusal :=
  .next (readMem (.zp z) opCpy s)

/-- CPY abs, opcode CC (R109, mode R85): compare Y. -/
def execCpyAbs (addr : Word) (s : State) : Host.Outcome State Fault Refusal :=
  .next (readMem (.abs addr) opCpy s)

/-- BIT zp, opcode 24 (R110, mode R83): test bits against A. -/
def execBitZp (z : Byte) (s : State) : Host.Outcome State Fault Refusal :=
  .next (readMem (.zp z) opBit s)

/-- BIT abs, opcode 2C (R110, mode R85): test bits against A. -/
def execBitAbs (addr : Word) (s : State) : Host.Outcome State Fault Refusal :=
  .next (readMem (.abs addr) opBit s)

end Sys2Proof.Machine
end

