-- ==== Sys2Proof/Machine/ReadModifyWrite.lean ====
section
/-!
DEFINITION. The read-modify-write instructions of 43_rmw.md: INC DEC ASL LSR ROL ROR. The functions from the old
byte and flags to the replacement byte and flags are in Flags.lean.
-/

namespace Sys2Proof.Machine

/-- INC zp, opcode E6 (R126, mode R83): increment memory. -/
def execIncZp (z : Byte) (s : State) : Host.Outcome State Fault Refusal :=
  .next (rmwMem (.zp z) Flags.incByte s)

/-- INC zpx, opcode F6 (R126, mode R84): increment memory. -/
def execIncZpx (z : Byte) (s : State) : Host.Outcome State Fault Refusal :=
  .next (rmwMem (.zpx z) Flags.incByte s)

/-- INC abs, opcode EE (R126, mode R85): increment memory. -/
def execIncAbs (addr : Word) (s : State) : Host.Outcome State Fault Refusal :=
  .next (rmwMem (.abs addr) Flags.incByte s)

/-- INC absx, opcode FE (R126, mode R86): increment memory. -/
def execIncAbsx (addr : Word) (s : State) : Host.Outcome State Fault Refusal :=
  .next (rmwMem (.absx addr) Flags.incByte s)

/-- DEC zp, opcode C6 (R127, mode R83): decrement memory. -/
def execDecZp (z : Byte) (s : State) : Host.Outcome State Fault Refusal :=
  .next (rmwMem (.zp z) Flags.decByte s)

/-- DEC zpx, opcode D6 (R127, mode R84): decrement memory. -/
def execDecZpx (z : Byte) (s : State) : Host.Outcome State Fault Refusal :=
  .next (rmwMem (.zpx z) Flags.decByte s)

/-- DEC abs, opcode CE (R127, mode R85): decrement memory. -/
def execDecAbs (addr : Word) (s : State) : Host.Outcome State Fault Refusal :=
  .next (rmwMem (.abs addr) Flags.decByte s)

/-- DEC absx, opcode DE (R127, mode R86): decrement memory. -/
def execDecAbsx (addr : Word) (s : State) : Host.Outcome State Fault Refusal :=
  .next (rmwMem (.absx addr) Flags.decByte s)

/-- ASL acc, opcode 0A (R128, mode R82): shift left. -/
def execAslAcc (s : State) : Host.Outcome State Fault Refusal :=
  .next (rmwAcc Flags.aslByte s)

/-- ASL zp, opcode 06 (R128, mode R83): shift left. -/
def execAslZp (z : Byte) (s : State) : Host.Outcome State Fault Refusal :=
  .next (rmwMem (.zp z) Flags.aslByte s)

/-- ASL zpx, opcode 16 (R128, mode R84): shift left. -/
def execAslZpx (z : Byte) (s : State) : Host.Outcome State Fault Refusal :=
  .next (rmwMem (.zpx z) Flags.aslByte s)

/-- ASL abs, opcode 0E (R128, mode R85): shift left. -/
def execAslAbs (addr : Word) (s : State) : Host.Outcome State Fault Refusal :=
  .next (rmwMem (.abs addr) Flags.aslByte s)

/-- ASL absx, opcode 1E (R128, mode R86): shift left. -/
def execAslAbsx (addr : Word) (s : State) : Host.Outcome State Fault Refusal :=
  .next (rmwMem (.absx addr) Flags.aslByte s)

/-- LSR acc, opcode 4A (R129, mode R82): shift right. -/
def execLsrAcc (s : State) : Host.Outcome State Fault Refusal :=
  .next (rmwAcc Flags.lsrByte s)

/-- LSR zp, opcode 46 (R129, mode R83): shift right. -/
def execLsrZp (z : Byte) (s : State) : Host.Outcome State Fault Refusal :=
  .next (rmwMem (.zp z) Flags.lsrByte s)

/-- LSR zpx, opcode 56 (R129, mode R84): shift right. -/
def execLsrZpx (z : Byte) (s : State) : Host.Outcome State Fault Refusal :=
  .next (rmwMem (.zpx z) Flags.lsrByte s)

/-- LSR abs, opcode 4E (R129, mode R85): shift right. -/
def execLsrAbs (addr : Word) (s : State) : Host.Outcome State Fault Refusal :=
  .next (rmwMem (.abs addr) Flags.lsrByte s)

/-- LSR absx, opcode 5E (R129, mode R86): shift right. -/
def execLsrAbsx (addr : Word) (s : State) : Host.Outcome State Fault Refusal :=
  .next (rmwMem (.absx addr) Flags.lsrByte s)

/-- ROL acc, opcode 2A (R130, mode R82): rotate left through C. -/
def execRolAcc (s : State) : Host.Outcome State Fault Refusal :=
  .next (rmwAcc Flags.rolByte s)

/-- ROL zp, opcode 26 (R130, mode R83): rotate left through C. -/
def execRolZp (z : Byte) (s : State) : Host.Outcome State Fault Refusal :=
  .next (rmwMem (.zp z) Flags.rolByte s)

/-- ROL zpx, opcode 36 (R130, mode R84): rotate left through C. -/
def execRolZpx (z : Byte) (s : State) : Host.Outcome State Fault Refusal :=
  .next (rmwMem (.zpx z) Flags.rolByte s)

/-- ROL abs, opcode 2E (R130, mode R85): rotate left through C. -/
def execRolAbs (addr : Word) (s : State) : Host.Outcome State Fault Refusal :=
  .next (rmwMem (.abs addr) Flags.rolByte s)

/-- ROL absx, opcode 3E (R130, mode R86): rotate left through C. -/
def execRolAbsx (addr : Word) (s : State) : Host.Outcome State Fault Refusal :=
  .next (rmwMem (.absx addr) Flags.rolByte s)

/-- ROR acc, opcode 6A (R131, mode R82): rotate right through C. -/
def execRorAcc (s : State) : Host.Outcome State Fault Refusal :=
  .next (rmwAcc Flags.rorByte s)

/-- ROR zp, opcode 66 (R131, mode R83): rotate right through C. -/
def execRorZp (z : Byte) (s : State) : Host.Outcome State Fault Refusal :=
  .next (rmwMem (.zp z) Flags.rorByte s)

/-- ROR zpx, opcode 76 (R131, mode R84): rotate right through C. -/
def execRorZpx (z : Byte) (s : State) : Host.Outcome State Fault Refusal :=
  .next (rmwMem (.zpx z) Flags.rorByte s)

/-- ROR abs, opcode 6E (R131, mode R85): rotate right through C. -/
def execRorAbs (addr : Word) (s : State) : Host.Outcome State Fault Refusal :=
  .next (rmwMem (.abs addr) Flags.rorByte s)

/-- ROR absx, opcode 7E (R131, mode R86): rotate right through C. -/
def execRorAbsx (addr : Word) (s : State) : Host.Outcome State Fault Refusal :=
  .next (rmwMem (.absx addr) Flags.rorByte s)

end Sys2Proof.Machine
end

