-- ==== Sys2Proof/Machine/Stack.lean ====
section
/-!
DEFINITION. The stack instructions of 46_stack_subroutine.md: PHA PHP PLA PLP JSR RTS BRK RTI. BRK enters and RTI
leaves a handler by the two shared operations of Ops.lean.
-/

namespace Sys2Proof.Machine

/-- JSR after its operand bytes (R170): one tick, push `PC - 1` high byte first, jump. -/
def callSubroutine (target : Word) (s : State) : State :=
  let s := s.tick 1
  let ret := s.pc - 1
  let s := (s.push (highByte ret)).push (lowByte ret)
  { s with pc := target }

/-- RTS (R171): two ticks, pull the low then the high byte, one tick, continue one past it. DESIGN CHOICE
(notes/assumptions/18.md): inside a handler this pulls P and the saved PC low byte as the address, by R171 and the
push order of R216, while R221 says that RTS there would return to the saved PC + 1 with P still on the
stack; no ruling settles it, and the model follows R171, in a handler as elsewhere. -/
def returnFromSubroutine (s : State) : State :=
  let (lo, s) := (s.tick 2).pull
  let (hi, s) := s.pull
  let s := s.tick 1
  { s with pc := wordOf hi lo + 1 }

/-- BRK (R172): one tick, skip the byte after the opcode, enter through the IRQ/BRK vector with the
B position 1. -/
def softwareInterrupt (s : State) : State :=
  let s := s.tick 1
  takeException irqVector true { s with pc := s.pc + 1 }

/-- PHA imp, opcode 48 (R166, mode R82): push A. -/
def execPha (s : State) : Host.Outcome State Fault Refusal :=
  .next ((s.tick 1).push s.a)

/-- PHP imp, opcode 08 (R167, mode R82): push P. -/
def execPhp (s : State) : Host.Outcome State Fault Refusal :=
  .next ((s.tick 1).push (s.flags.packP true))

/-- PLA imp, opcode 68 (R168, mode R82): pull A. -/
def execPla (s : State) : Host.Outcome State Fault Refusal :=
  .next (let (v, s) := (s.tick 2).pull
    s.loadA v)

/-- PLP imp, opcode 28 (R169, mode R82): pull P. -/
def execPlp (s : State) : Host.Outcome State Fault Refusal :=
  .next (let (v, s) := (s.tick 2).pull
    { s with flags := Flags.unpackP v })

/-- JSR abs, opcode 20 (R170, mode R85): call. -/
def execJsr (target : Word) (s : State) : Host.Outcome State Fault Refusal :=
  .next (callSubroutine target s)

/-- RTS imp, opcode 60 (R171, mode R82): return. -/
def execRts (s : State) : Host.Outcome State Fault Refusal :=
  .next (returnFromSubroutine s)

/-- BRK imp, opcode 00 (R172, mode R82): software interrupt. -/
def execBrk (s : State) : Host.Outcome State Fault Refusal :=
  .next (softwareInterrupt s)

/-- RTI imp, opcode 40 (R173, mode R82): return from interrupt. -/
def execRti (s : State) : Host.Outcome State Fault Refusal :=
  .next (returnFromException (s.tick 2))

end Sys2Proof.Machine
end

