-- ==== Sys2Proof/Machine/Store.lean ====
section
/-!
DEFINITION. The write-shape instructions of 44_store.md: STA STX STY.
-/

namespace Sys2Proof.Machine

/-- STA zp, opcode 85 (R136, mode R83): store A. -/
def execStaZp (z : Byte) (s : State) : Host.Outcome State Fault Refusal :=
  .next (writeMem (.zp z) State.a s)

/-- STA zpx, opcode 95 (R136, mode R84): store A. -/
def execStaZpx (z : Byte) (s : State) : Host.Outcome State Fault Refusal :=
  .next (writeMem (.zpx z) State.a s)

/-- STA abs, opcode 8D (R136, mode R85): store A. -/
def execStaAbs (addr : Word) (s : State) : Host.Outcome State Fault Refusal :=
  .next (writeMem (.abs addr) State.a s)

/-- STA absx, opcode 9D (R136, mode R86): store A. -/
def execStaAbsx (addr : Word) (s : State) : Host.Outcome State Fault Refusal :=
  .next (writeMem (.absx addr) State.a s)

/-- STA absy, opcode 99 (R136, mode R86): store A. -/
def execStaAbsy (addr : Word) (s : State) : Host.Outcome State Fault Refusal :=
  .next (writeMem (.absy addr) State.a s)

/-- STA indx, opcode 81 (R136, mode R88): store A. -/
def execStaIndx (z : Byte) (s : State) : Host.Outcome State Fault Refusal :=
  .next (writeMem (.indx z) State.a s)

/-- STA indy, opcode 91 (R136, mode R89): store A. -/
def execStaIndy (z : Byte) (s : State) : Host.Outcome State Fault Refusal :=
  .next (writeMem (.indy z) State.a s)

/-- STX zp, opcode 86 (R137, mode R83): store X. -/
def execStxZp (z : Byte) (s : State) : Host.Outcome State Fault Refusal :=
  .next (writeMem (.zp z) State.x s)

/-- STX zpy, opcode 96 (R137, mode R84): store X. -/
def execStxZpy (z : Byte) (s : State) : Host.Outcome State Fault Refusal :=
  .next (writeMem (.zpy z) State.x s)

/-- STX abs, opcode 8E (R137, mode R85): store X. -/
def execStxAbs (addr : Word) (s : State) : Host.Outcome State Fault Refusal :=
  .next (writeMem (.abs addr) State.x s)

/-- STY zp, opcode 84 (R138, mode R83): store Y. -/
def execStyZp (z : Byte) (s : State) : Host.Outcome State Fault Refusal :=
  .next (writeMem (.zp z) State.y s)

/-- STY zpx, opcode 94 (R138, mode R84): store Y. -/
def execStyZpx (z : Byte) (s : State) : Host.Outcome State Fault Refusal :=
  .next (writeMem (.zpx z) State.y s)

/-- STY abs, opcode 8C (R138, mode R85): store Y. -/
def execStyAbs (addr : Word) (s : State) : Host.Outcome State Fault Refusal :=
  .next (writeMem (.abs addr) State.y s)

end Sys2Proof.Machine
end

