-- ==== Sys2Proof/Machine/Step.lean ====
section
/-!
DEFINITION. One step of the machine (48_step_engine.md R195, R196), and where its next instruction is
placed.
-/

namespace Sys2Proof.Machine

/-- The step: poll; enter NMI or IRQ, or fetch one instruction and run it (R196). -/
def step (s : State) : Host.Outcome State Fault Refusal :=
  match s.poll with
  | .nmi => .next (takeNmi s)
  | .irq => .next (takeIrq s)
  | .instruction =>
    let (i, s) := s.fetchInstr
    exec i s

/-- The state with the bytes of a table word at PC, PC + 1 and PC + 2, no interrupt about to be taken
and no device at those addresses, so that the next step fetches and runs that instruction: it stands
for the host's loading of a program (48_step_engine.md R202; notes/assumptions/9.md). -/
def State.withFetchWord (s : State) (nbits w : Nat) : State :=
  let v := w % 2 ^ nbits
  let s := ((s.poke s.pc (BitVec.ofNat 8 v)).poke (s.pc + 1) (BitVec.ofNat 8 (v / 256))).poke
    (s.pc + 2) (BitVec.ofNat 8 (v / 65536))
  { s with
    nmiPending := false
    irqLine := s.irqLine && s.flags.i
    deviceWindows := s.deviceWindows.filter fun d =>
      !(d.covers s.pc || d.covers (s.pc + 1) || d.covers (s.pc + 2)) }

end Sys2Proof.Machine
end

