-- ==== Sys2Proof/Machine/HostInterface.lean ====
section
/-!
DEFINITION. What the host can do between steps (48_step_engine.md R202; 10_state.md R37;
60_exceptions.md R213; 70_reset_and_hazards.md R240), as events on the state, and the runs that mix
events and steps.
-/

namespace Sys2Proof.Machine

/-- The register values a launch state may give (10_state.md R37). -/
structure Registers where
  a : Byte
  x : Byte
  y : Byte
  sp : Byte
  pc : Word
  flags : Flags
  deriving DecidableEq, Repr

/-- What the host does between two steps (48_step_engine.md R202). No event lowers `cycles` and none
but `nmiEdge` sets `nmi_pending` (U14; notes/assumptions/16.md). -/
inductive HostEvent where
  /-- Hold the IRQ line asserted or not (60_exceptions.md R213). -/
  | irqLevel (asserted : Bool)
  /-- A falling edge of NMI; a second one before the first is taken is lost (R213, U13). -/
  | nmiEdge
  /-- The RESET operation (70_reset_and_hazards.md R240). -/
  | reset
  /-- Write the state record directly: a launch state (10_state.md R37). -/
  | launch (r : Registers)
  /-- Raise `cycles` (10_state.md R32, R37: never lowered). -/
  | addCycles (n : Nat)
  /-- Write a byte of memory. -/
  | poke (a : Word) (v : Byte)
  /-- Choose where the platform has devices (the parameter BUS, D23). -/
  | mapDevices (windows : List DeviceWindow)
  deriving DecidableEq, Repr

/-- The effect of a host event. -/
def State.hostEvent (s : State) : HostEvent → State
  | .irqLevel b => { s with irqLine := b }
  | .nmiEdge => { s with nmiPending := true }
  | .reset => s.resetOp
  | .launch r => { s with a := r.a, x := r.x, y := r.y, sp := r.sp, pc := r.pc, flags := r.flags }
  | .addCycles n => s.tick n
  | .poke a v => s.poke a v
  | .mapDevices ws => { s with deviceWindows := ws }

/-- The core as created with the draws of the unspecified registers and flags (10_state.md R36; U1),
a memory image and the platform's devices. -/
def State.createdWith (draw : Registers) (image : Memory) (windows : List DeviceWindow) : State :=
  { State.created with
    a := draw.a
    x := draw.x
    y := draw.y
    sp := draw.sp
    pc := draw.pc
    flags := draw.flags
    mem := image
    deviceWindows := windows }

/-- One turn of the host's loop (48_step_engine.md R202): an event, or a step. -/
inductive Turn where
  | event (e : HostEvent)
  | step
  deriving DecidableEq, Repr

/-- The state after a turn. After a fault the host goes on from the state it leaves ("skip",
60_exceptions.md R211); a refusal, which no step answers, would leave the state as it was. -/
def State.turn (s : State) : Turn → State
  | .event e => s.hostEvent e
  | .step =>
    match Sys2Proof.Machine.step s with
    | .next t => t
    | .fault f => f.stateLeft
    | .refused _ => s

/-- The state after a list of turns. -/
def State.turns (s : State) : List Turn → State
  | [] => s
  | t :: ts => (s.turn t).turns ts

end Sys2Proof.Machine
end

