-- ==== Sys2Proof/Safety.lean ====
section
/-!
DEFINITION. What a safe run is, in the terms the claims use: the invariant of the state, how a run
uses the bus, the host's stop conditions, the table's ticks with their penalties, and the shapes of
outcome that the statements about instructions name.
-/

namespace Sys2Proof.Machine

/-! ### Invariant -/

/-- What every step keeps: memory is in its canonical form, and every bus transaction on record was a
tick (00_scope.md R8; 20_memory.md R56). -/
abbrev State.Inv (s : State) : Prop := s.mem.wf = true ∧ s.bus.length ≤ s.cycles

/-! ### The bus record of a run -/

/-- The memory of `s` after the transactions `evs` (newest first): a write outside every device window
stores its byte, nothing else changes memory (20_memory.md R41, R48). That a write inside one leaves
memory as it was is the model's choice (notes/assumptions/4.md). -/
def replay (s : State) : List BusEvent → Memory
  | [] => s.mem
  | e :: older =>
    if e.kind = .write ∧ s.inDevice e.addr = false then
      (replay s older).write e.addr.toNat e.data
    else replay s older

/-- Every read among the transactions `evs` (newest first) that follow `s` was answered as the bus
answers: plain RAM with the byte most recently written, a device with the free value for the history
so far (20_memory.md R41, R50; notes/assumptions/4.md). -/
def Answered (s : State) : List BusEvent → Prop
  | [] => True
  | e :: older =>
    (e.kind = .read →
      e.data = if s.inDevice e.addr then Config.deviceAnswer (older ++ s.bus) e.addr
        else (replay s older).read e.addr.toNat) ∧
    Answered s older

/-- `t` comes after `s` by bus transactions and ticks alone as far as memory and platform go: the
record grew by `evs`, memory is what they make of it, every read was answered as the bus answers, each
transaction was a tick, and the host's inputs other than NMI are as they were. -/
def Extends (s t : State) : Prop :=
  t.irqLine = s.irqLine ∧ t.deviceWindows = s.deviceWindows ∧
  ∃ evs, t.bus = evs ++ s.bus ∧ t.mem = replay s evs ∧ Answered s evs ∧
    s.cycles + evs.length ≤ t.cycles

/-! ### Ends of a run -/

/-- The instances of the host's parameter `HOST_STOP` that the spec names (70_reset_and_hazards.md
R244; D20). -/
inductive HostStop where
  /-- The byte at PC is 0x00. -/
  | brkNext
  /-- The step just made executed opcode 0x00. -/
  | brkExecuted
  /-- The step answered a fault. -/
  | faulted
  /-- The step left PC as it was (a jump or a taken branch to itself). -/
  | trapped
  deriving DecidableEq, Repr

/-- The byte at PC is 0x00, as the host sees memory (R244, "before ... executing it"). A condition on the
state alone: the host may test it before the first step too. -/
def State.brkAtPC (s : State) : Bool := s.peek s.pc == 0x00

/-- Does the host stop after a step from `s` with this outcome (R244)? The core itself never stops.
DESIGN CHOICE (notes/assumptions/11.md): D20 makes each instance a predicate over the state and the last
outcome and does not say which of them are tested after a fault that the host skips; here `brkNext` and
`trapped` are tested on the state the step left, be it a next state or the one a fault leaves. -/
def HostStop.holds (h : HostStop) (s : State) (outcome : Host.Outcome State Fault Refusal) : Bool :=
  match h, outcome with
  | .brkNext, .next t => t.brkAtPC
  | .brkNext, .fault f => f.stateLeft.brkAtPC
  | .brkExecuted, .next _ => s.poll == .instruction && s.fetchInstr.1 == .brk
  | .brkExecuted, .fault _ => false
  | .faulted, .next _ => false
  | .faulted, .fault _ => true
  | .trapped, .next t => t.pc == s.pc
  | .trapped, .fault f => f.stateLeft.pc == s.pc
  | .brkNext, .refused _ | .brkExecuted, .refused _ | .faulted, .refused _ | .trapped, .refused _ => false

/-! ### Ticks -/

/-- The page-crossing tick of a read in a memory mode: 1 when the index carries out of the low byte of
the base, in the modes absolute,X, absolute,Y and (indirect),Y (40_addressing_modes.md R87). -/
def pageTick (m : MemOperand) (s : State) : Nat :=
  match m with
  | .absx addr => if crossed addr s.x then 1 else 0
  | .absy addr => if crossed addr s.y then 1 else 0
  | .indy z => if crossed (zeroPagePointer z s).1 s.y then 1 else 0
  | .zp _ | .zpx _ | .zpy _ | .abs _ | .indx _ => 0

/-- The penalty ticks of a branch: one when taken, one more when the target is in another page than
the next instruction (47_jump_branch.md R181). -/
def branchTicks (taken : Bool) (off : Byte) (s : State) : Nat :=
  if taken then
    if highByte (s.pc + off.signExtend 16) = highByte s.pc then 1 else 2
  else 0

/-- The condition of a branch mnemonic on the flags (47_jump_branch.md R181, the table). -/
def branchTaken (m : Mnemonic) (f : Flags) : Bool :=
  match m with
  | .bpl => !f.n
  | .bmi => f.n
  | .bvc => !f.v
  | .bvs => f.v
  | .bcc => !f.c
  | .bcs => f.c
  | .bne => !f.z
  | .beq => f.z
  | _ => false

/-- The memory operand of an instruction, from its mode and operand bytes (30_encoding.md R60 to R62). -/
def Instr.memOperand (i : Instr) : Option MemOperand :=
  match i.mode, i.operandBytes with
  | some .zp, [z] => some (.zp z)
  | some .zpx, [z] => some (.zpx z)
  | some .zpy, [z] => some (.zpy z)
  | some .abs, [lo, hi] => some (.abs (wordOf hi lo))
  | some .absx, [lo, hi] => some (.absx (wordOf hi lo))
  | some .absy, [lo, hi] => some (.absy (wordOf hi lo))
  | some .indx, [z] => some (.indx z)
  | some .indy, [z] => some (.indy z)
  | _, _ => none

/-- The `penalty` of 70_reset_and_hazards.md R250 for an instruction whose operand bytes have been
fetched: the page crossing of a read-shape instruction, or the ticks of a taken branch. -/
def penalty (i : Instr) (s : State) : Nat :=
  match i.shape, i.mnemonic, i.operandBytes with
  | some .read, _, _ =>
    match Instr.memOperand i with
    | some m => pageTick m s
    | none => 0
  | some .branch, some m, [off] => branchTicks (branchTaken m s.flags) off s
  | _, _, _ => 0

/-- The base cycles of 70_reset_and_hazards.md R251, by shape, mode and (for the stack shape) mnemonic;
0 where the table has no number. -/
def publishedCycles (m : Mnemonic) (mode : Mode) : Nat :=
  match m.shape with
  | .read =>
    match mode with
    | .imm => 2
    | .zp => 3
    | .zpx | .zpy | .abs | .absx | .absy => 4
    | .indx => 6
    | .indy => 5
    | .imp | .acc | .ind | .rel => 0
  | .write =>
    match mode with
    | .zp => 3
    | .zpx | .zpy | .abs => 4
    | .absx | .absy => 5
    | .indx | .indy => 6
    | .imp | .acc | .imm | .ind | .rel => 0
  | .rmw =>
    match mode with
    | .acc => 2
    | .zp => 5
    | .zpx | .zpy | .abs => 6
    | .absx | .absy => 7
    | .imp | .imm | .indx | .indy | .ind | .rel => 0
  | .implied => 2
  | .jump => if mode = .ind then 5 else 3
  | .branch => 2
  | .stack =>
    match m with
    | .pha | .php => 3
    | .pla | .plp => 4
    | .jsr | .rts | .rti => 6
    | .brk => 7
    | _ => 0

/-- How many bytes an instruction reads, and how many it writes, beyond fetching its own bytes
(20_memory.md R43): data, pointers, stack and vector. -/
def dataAccesses (i : Instr) : Nat × Nat :=
  let pointer := match i.mode with
    | some .indx | some .indy | some .ind => 2
    | _ => 0
  match i.shape with
  | some .read => (pointer + if i.mode = some .imm then 0 else 1, 0)
  | some .rmw => if i.mode = some .acc then (0, 0) else (1, 1)
  | some .write => (pointer, 1)
  | some .jump => (pointer, 0)
  | some .stack =>
    match i.mnemonic with
    | some .pha | some .php => (0, 1)
    | some .pla | some .plp => (1, 0)
    | some .jsr => (0, 2)
    | some .rts => (2, 0)
    | some .brk => (2, 3)
    | some .rti => (3, 0)
    | _ => (0, 0)
  | some .implied | some .branch | none => (0, 0)

/-! ### Fetching -/

/-- Fetch `n` bytes at PC, first byte first (40_addressing_modes.md R80). -/
def State.fetchBytes : Nat → State → List Byte × State
  | 0, s => ([], s)
  | n + 1, s =>
    let (b, s) := s.fetch8
    let (bs, s) := s.fetchBytes n
    (b :: bs, s)

/-- The read transactions of fetching these bytes from `pc` on, oldest first (R80; 20_memory.md R47). -/
def fetchReads (pc : Word) : List Byte → List BusEvent
  | [] => []
  | b :: bs => { kind := .read, addr := pc, data := b } :: fetchReads (pc + 1) bs

/-! ### Shapes of outcome

The state `s` of a form is the one after the instruction's own bytes have been fetched (PC is the
address of the next instruction); `code` is those bytes and `ticks` the number of the rule's Encoding
table, which counts one tick for each of them. -/

/-- N and Z of a result (10_state.md R31), the other flags kept. -/
def nz (v : Byte) (f : Flags) : Flags := { f with n := v.msb, z := decide (v = 0) }

/-- A read transaction. -/
def readOf (a : Word) (v : Byte) : BusEvent := { kind := .read, addr := a, data := v }

/-- A write transaction. -/
def writeOf (a : Word) (v : Byte) : BusEvent := { kind := .write, addr := a, data := v }

/-- The operand byte of a read in a memory mode. -/
def operandOf (m : MemOperand) (s : State) : Byte := (loadOperand m s).1

/-- From `s` to `t` the bytes of `stores` (distinct addresses) were written to the bus: plain memory
holds each of them, a device window leaves memory as it was (the model's choice, notes/assumptions/4.md),
and no other byte of memory changed. -/
def Stored (stores : List (Word × Byte)) (s t : State) : Prop :=
  (∀ b : Nat, (∀ c ∈ stores, b ≠ c.1.toNat) → t.mem.read b = s.mem.read b) ∧
  ∀ c ∈ stores,
    (s.inDevice c.1 = false → s.mem.wf = true → t.mem.read c.1.toNat = c.2) ∧
    (s.inDevice c.1 = true → t.mem.read c.1.toNat = s.mem.read c.1.toNat)

/-- A read-shape instruction in mode `imm` on the operand byte `v`: it answers `g v s`, and does
nothing else. -/
def ImmForm (code : List Byte) (i : Instr) (v : Byte) (g : Byte → State → State) (s : State) : Prop :=
  encode i = code ∧ exec i s = .next (g v s)

/-- A read-shape instruction in a memory mode: it answers `g v s` for the operand byte `v`; beyond
what `g` changes, only `cycles` and the bus record differ from `s`, the newest transaction being the
read of the effective address. -/
def ReadForm (code : List Byte) (ticks : Nat) (i : Instr) (m : MemOperand)
    (g : Byte → State → State) (s : State) : Prop :=
  encode i = code ∧
  exec i s = .next
    { g (operandOf m s) s with
      cycles := s.cycles + (ticks - code.length) + pageTick m s
      bus := readOf (effectiveAddress .read m s).1 (operandOf m s) ::
        (effectiveAddress .read m s).2.bus }

/-- An instruction of mode `imp` or `acc` with two ticks: it answers `t` with one tick more than `s`. -/
def ImpliedForm (code : List Byte) (i : Instr) (t : State) (s : State) : Prop :=
  encode i = code ∧ exec i s = .next { t with cycles := s.cycles + 1 }

/-- A read-modify-write instruction in a memory mode: `r` and `fl` are the replacement byte and the
flags of `f` on the byte read. One read, then one write of the effective address; N and Z follow `r`;
nothing else changes but ticks and the bus record. -/
def RmwForm (code : List Byte) (ticks : Nat) (i : Instr) (m : MemOperand)
    (f : Byte → Flags → Byte × Flags) (s : State) : Prop :=
  let (ea, s1) := effectiveAddress .rmw m s
  let v := s1.busAnswer ea
  let (r, fl) := f v s.flags
  encode i = code ∧
  ∃ t, exec i s = .next t ∧
    t = { s with
      flags := nz r fl
      cycles := s.cycles + (ticks - code.length)
      mem := t.mem
      bus := writeOf ea r :: readOf ea v :: s1.bus } ∧
    Stored [(ea, r)] s t

/-- A read-modify-write instruction on the accumulator. -/
def RmwAccForm (code : List Byte) (i : Instr) (f : Byte → Flags → Byte × Flags) (s : State) : Prop :=
  let (r, fl) := f s.a s.flags
  ImpliedForm code i { s with a := r, flags := nz r fl } s

/-- A store of the byte `v`: one write of the effective address, nothing else but ticks and the bus
record; no flag changes. -/
def StoreForm (code : List Byte) (ticks : Nat) (i : Instr) (m : MemOperand) (v : Byte) (s : State) :
    Prop :=
  let (ea, s1) := effectiveAddress .write m s
  encode i = code ∧
  ∃ t, exec i s = .next t ∧
    t = { s with
      cycles := s.cycles + (ticks - code.length)
      mem := t.mem
      bus := writeOf ea v :: s1.bus } ∧
    Stored [(ea, v)] s t

/-- A push of the byte `v`, three ticks in all: the write at `0x0100 + S`, then S one lower; nothing
else but ticks and the bus record. -/
def PushForm (code : List Byte) (i : Instr) (v : Byte) (s : State) : Prop :=
  let a := 0x0100 + s.sp.setWidth 16
  encode i = code ∧
  ∃ t, exec i s = .next t ∧
    t = { s with
      sp := s.sp - 1
      cycles := s.cycles + (3 - code.length)
      mem := t.mem
      bus := writeOf a v :: s.bus } ∧
    Stored [(a, v)] s t

/-- A pull, four ticks in all: S one higher, then the byte `v` read at `0x0100 + S`; it answers
`g v s` and nothing else changes but S, ticks and the bus record. -/
def PullForm (code : List Byte) (i : Instr) (g : Byte → State → State) (s : State) : Prop :=
  let a := 0x0100 + (s.sp + 1).setWidth 16
  let v := s.busAnswer a
  encode i = code ∧
  exec i s = .next
    { g v s with
      sp := s.sp + 1
      cycles := s.cycles + (4 - code.length)
      bus := readOf a v :: s.bus }

/-- A branch on `cond`: PC is the target when `cond` holds and stays the next instruction's address
when not, with the penalty ticks of R181; nothing else changes, no transaction is issued. -/
def BranchForm (code : List Byte) (i : Instr) (off : Byte) (cond : Bool) (s : State) : Prop :=
  let target := s.pc + off.signExtend 16
  encode i = code ∧
  exec i s = .next
    { s with
      pc := if cond then target else s.pc
      cycles := s.cycles +
        (if cond then if highByte target ≠ highByte s.pc then 2 else 1 else 0) }

/-- A handler was entered from `s`, whose PC is the one to save: three pushes (PC high byte, PC low
byte, P with the B position `b` and I as it was), I set, PC from the vector; S three lower, five
ticks; nothing else changes but the bus record and the three stack bytes (46_stack_subroutine.md R172;
60_exceptions.md R216). -/
def Entered (vector : Word) (b : Bool) (s t : State) : Prop :=
  let a0 := 0x0100 + s.sp.setWidth 16
  let a1 := 0x0100 + (s.sp - 1).setWidth 16
  let a2 := 0x0100 + (s.sp - 2).setWidth 16
  let pushes := [writeOf a2 (s.flags.packP b), writeOf a1 (lowByte s.pc), writeOf a0 (highByte s.pc)]
  let pushed := { s with mem := t.mem, bus := pushes ++ s.bus }
  let lo := pushed.busAnswer vector
  let hi := { pushed with bus := readOf vector lo :: pushed.bus }.busAnswer (vector + 1)
  t = { s with
    pc := wordOf hi lo
    sp := s.sp - 3
    flags := { s.flags with i := true }
    cycles := s.cycles + 5
    mem := t.mem
    bus := readOf (vector + 1) hi :: readOf vector lo :: (pushes ++ s.bus) } ∧
  Stored [(a0, highByte s.pc), (a1, lowByte s.pc), (a2, s.flags.packP b)] s t

end Sys2Proof.Machine
end

