-- ==== Sys2Proof/Certificates/Slice0/Obligations.lean ====
section
/-!
DEFINITION. The statements for the provers, in the order of OBLIGATIONS.json. "After its bytes" in a
docstring means: the state `s` given to `exec` is the one after the instruction's own bytes were
fetched, so that PC is the address of the next instruction; `StepRunsDecodedInstruction` says that a
step is exactly that fetch followed by `exec`.
-/

section

open Sys2Proof Sys2Proof.Machine

/-- O1, tier 1. R31: N and Z come from the result alone, and after SetNZ they are never both 1. -/
def Obligations.SetNZFromResult : Prop :=
  ∀ (v : Byte) (f : Flags),
    Flags.setNZ v f = { f with n := v.getLsbD 7, z := decide (v = 0) } ∧
    ¬ ((Flags.setNZ v f).n = true ∧ (Flags.setNZ v f).z = true)

/-- O2, tier 1. R30: the layout of the packed status byte, both ways. -/
def Obligations.PackedStatusByte : Prop :=
  (∀ (b : Bool) (f : Flags),
    (f.packP b).getLsbD 7 = f.n ∧ (f.packP b).getLsbD 6 = f.v ∧ (f.packP b).getLsbD 5 = true ∧
    (f.packP b).getLsbD 4 = b ∧ (f.packP b).getLsbD 3 = f.d ∧ (f.packP b).getLsbD 2 = f.i ∧
    (f.packP b).getLsbD 1 = f.z ∧ (f.packP b).getLsbD 0 = f.c ∧
    Flags.unpackP (f.packP b) = f) ∧
  (∀ v : Byte, Flags.unpackP v =
    { n := v.getLsbD 7, v := v.getLsbD 6, d := v.getLsbD 3, i := v.getLsbD 2, z := v.getLsbD 1,
      c := v.getLsbD 0 }) ∧
  Flags.packP true
    { n := false, v := false, d := false, i := false, z := false, c := false } = 0x30

/-- O3, tier 1. R26: the order inside push and pull. -/
def Obligations.PushThenPullOrder : Prop :=
  ∀ (s : State) (v : Byte),
    s.push v = { s.memWrite (0x0100 + s.sp.setWidth 16) v with sp := s.sp - 1 } ∧
    s.pull = ({ s with sp := s.sp + 1 } : State).memRead (0x0100 + (s.sp + 1).setWidth 16) ∧
    (s.push v).cycles = s.cycles + 1 ∧ s.pull.2.cycles = s.cycles + 1 ∧
    (s.push v).bus = writeOf (0x0100 + s.sp.setWidth 16) v :: s.bus ∧
    s.pull.2.bus = readOf (0x0100 + (s.sp + 1).setWidth 16) s.pull.1 :: s.bus

/-- O4, tier 2. R166: the round trip of the document, with the fetch of the PLA opcode between the
two. Plain memory at the stack address is needed: a device there may answer anything (R41). -/
def Obligations.PhaPlaRoundTrip : Prop :=
  ∀ s : State, s.mem.wf = true → s.inDevice (0x0100 + s.sp.setWidth 16) = false →
    ∃ t, exec .pha s = .next t ∧
      ∃ u, exec .pla (t.fetchBytes 1).2 = .next u ∧ u.a = s.a ∧ u.sp = s.sp

/-- O5, tier 2. Memory is determined by its 65536 bytes (R42). The list form is the model's
(notes/assumptions/3.md). -/
def Obligations.EqualReadsEqualMemories : Prop :=
  ∀ m k : Memory, m.wf = true → k.wf = true → (∀ a : Nat, m.read a = k.read a) → m = k

/-- O6, tier 1. R240: the RESET operation on every state. -/
def Obligations.ResetOperation : Prop :=
  ∀ s : State,
    let lo := s.busAnswer 0xFFFC
    let hi := ({ s with bus := readOf 0xFFFC lo :: s.bus } : State).busAnswer 0xFFFD
    s.resetOp =
      { s with
        pc := wordOf hi lo
        flags := { s.flags with i := true }
        nmiPending := false
        cycles := s.cycles + 7
        bus := readOf 0xFFFD hi :: readOf 0xFFFC lo :: s.bus }

/-- O7, tier 1. R36, with the register values of notes/assumptions/1.md (the model's choice: the
spec leaves them unspecified). -/
def Obligations.ResetStateIsPowerOnReset : Prop :=
  State.reset = State.created.resetOp ∧
    State.created.cycles = 0 ∧ State.created.nmiPending = false ∧
    State.reset.cycles = 7 ∧ State.reset.flags.i = true ∧ State.reset.nmiPending = false

/-- O8, tier 1. The invariant of `StepKeepsInvariant` at reset. -/
def Obligations.ResetMeetsInvariant : Prop :=
  State.reset.Inv

/-- O9, tier 1. R80: fetching through PC. -/
def Obligations.FetchThroughPC : Prop :=
  ∀ s : State,
    let lo := s.busAnswer s.pc
    let s1 : State :=
      { s with pc := s.pc + 1, cycles := s.cycles + 1, bus := readOf s.pc lo :: s.bus }
    let hi := s1.busAnswer s1.pc
    let s2 : State :=
      { s1 with pc := s1.pc + 1, cycles := s1.cycles + 1, bus := readOf s1.pc hi :: s1.bus }
    s.fetch8 = (lo, s1) ∧ s.fetch16 = (wordOf hi lo, s2) ∧
    (wordOf hi lo).toNat = hi.toNat * 256 + lo.toNat ∧ ((0xFFFF : Word) + 1 = 0x0000)

/-- O10, tier 1. R83, R84: the modes with the fetch of their operand byte. -/
def Obligations.ZeroPageModes : Prop :=
  ∀ (access : Access) (s : State),
    let z := s.fetch8.1
    let s1 := s.fetch8.2
    effectiveAddress access (.zp z) s1 = (z.setWidth 16, { s1 with cycles := s.cycles + 1 }) ∧
    effectiveAddress access (.zpx z) s1 =
      ((z + s.x).setWidth 16, { s1 with cycles := s.cycles + 2 }) ∧
    effectiveAddress access (.zpy z) s1 =
      ((z + s.y).setWidth 16, { s1 with cycles := s.cycles + 2 }) ∧
    (effectiveAddress access (.zp z) s1).1.toNat = z.toNat ∧
    (effectiveAddress access (.zpx z) s1).1.toNat = (z.toNat + s.x.toNat) % 256 ∧
    (effectiveAddress access (.zpy z) s1).1.toNat = (z.toNat + s.y.toNat) % 256

/-- O11, tier 1. R85, R86: the modes with the fetch of their two operand bytes. -/
def Obligations.AbsoluteModes : Prop :=
  ∀ (access : Access) (s : State),
    let base := s.fetch16.1
    let s2 := s.fetch16.2
    let extra := fun index : Byte =>
      match access with
      | .read => if 0xFF < (lowByte base).toNat + index.toNat then 1 else 0
      | .write => 1
      | .rmw => 1
    effectiveAddress access (.abs base) s2 = (base, { s2 with cycles := s.cycles + 2 }) ∧
    effectiveAddress access (.absx base) s2 =
      (base + s.x.setWidth 16, { s2 with cycles := s.cycles + 2 + extra s.x }) ∧
    effectiveAddress access (.absy base) s2 =
      (base + s.y.setWidth 16, { s2 with cycles := s.cycles + 2 + extra s.y })

/-- O12, tier 1. R88, R89: the modes with the fetch of their operand byte. -/
def Obligations.IndirectModes : Prop :=
  ∀ (access : Access) (s : State),
    let z := s.fetch8.1
    let s1 := s.fetch8.2
    let pointer := fun p : Byte =>
      let lo := s1.busAnswer (p.setWidth 16)
      let b1 := readOf (p.setWidth 16) lo :: s1.bus
      let hi := ({ s1 with bus := b1 } : State).busAnswer ((p + 1).setWidth 16)
      (wordOf hi lo, readOf ((p + 1).setWidth 16) hi :: b1)
    let base := (pointer z).1
    let extra :=
      match access with
      | .read => if 0xFF < (lowByte base).toNat + s.y.toNat then 1 else 0
      | .write => 1
      | .rmw => 1
    effectiveAddress access (.indx z) s1 =
      ((pointer (z + s.x)).1,
        { s1 with cycles := s.cycles + 4, bus := (pointer (z + s.x)).2 }) ∧
    effectiveAddress access (.indy z) s1 =
      (base + s.y.setWidth 16,
        { s1 with cycles := s.cycles + 3 + extra, bus := (pointer z).2 })

/-- O13, tier 2. R87, R94. -/
def Obligations.PageCrossingRule : Prop :=
  (∀ (base : Word) (index : Byte),
    (crossed base index = true ↔ 0xFF < base.toNat % 256 + index.toNat) ∧
    crossed base 0 = false ∧
    (crossed base index = true ↔ highByte (base + index.setWidth 16) ≠ highByte base)) ∧
  ∀ (m : MemOperand) (s : State),
    let ticks := fun access => (effectiveAddress access m s).2.cycles
    ticks .write = ticks .rmw ∧
    match m with
    | .absx base => ticks .read + (if crossed base s.x then 0 else 1) = ticks .write
    | .absy base => ticks .read + (if crossed base s.y then 0 else 1) = ticks .write
    | .indy z =>
      ticks .read + (if crossed (zeroPagePointer z s).1 s.y then 0 else 1) = ticks .write
    | .zp _ | .zpx _ | .zpy _ | .abs _ | .indx _ => ticks .read = ticks .write

/-- O14, tier 2. R90: the page-wrap quirk of the NMOS part. -/
def Obligations.JmpPointerTarget : Prop :=
  ∀ s : State,
    let ptr := s.fetch16.1
    let s2 := s.fetch16.2
    let next : Word := if lowByte ptr = 0xFF then ptr &&& 0xFF00 else ptr + 1
    let lo := s2.busAnswer ptr
    let hi := ({ s2 with bus := readOf ptr lo :: s2.bus } : State).busAnswer next
    targetInd ptr s2 =
      (wordOf hi lo,
        { s2 with cycles := s.cycles + 4, bus := readOf next hi :: readOf ptr lo :: s2.bus })

/-- O15, tier 2. R91: the signed offset. -/
def Obligations.BranchTargetIsSigned : Prop :=
  ∀ s : State,
    let off := s.fetch8.1
    let s1 := s.fetch8.2
    let next := (targetRel off s1).2
    next = s.pc + 1 ∧ s1.pc = next ∧ s1.cycles = s.cycles + 1 ∧
    ((targetRel off s1).1.toNat : Int) = ((next.toNat : Int) + off.toInt) % 65536 ∧
    (off.toInt = if off.toNat < 0x80 then (off.toNat : Int) else (off.toNat : Int) - 256)

/-- O16, tier 2. R101, R102, R103: the loads complete in every mode, with their encodings and ticks.
-/
def Obligations.LoadResults : Prop :=
  ∀ (s : State) (z : Byte) (w : Word),
    let lda := fun (v : Byte) (s : State) => { s with a := v, flags := nz v s.flags }
    let ldx := fun (v : Byte) (s : State) => { s with x := v, flags := nz v s.flags }
    let ldy := fun (v : Byte) (s : State) => { s with y := v, flags := nz v s.flags }
    ImmForm [0xA9, z] (.ldaImm z) z lda s ∧
    ReadForm [0xA5, z] 3 (.ldaZp z) (.zp z) lda s ∧
    ReadForm [0xB5, z] 4 (.ldaZpx z) (.zpx z) lda s ∧
    ReadForm [0xAD, lowByte w, highByte w] 4 (.ldaAbs w) (.abs w) lda s ∧
    ReadForm [0xBD, lowByte w, highByte w] 4 (.ldaAbsx w) (.absx w) lda s ∧
    ReadForm [0xB9, lowByte w, highByte w] 4 (.ldaAbsy w) (.absy w) lda s ∧
    ReadForm [0xA1, z] 6 (.ldaIndx z) (.indx z) lda s ∧
    ReadForm [0xB1, z] 5 (.ldaIndy z) (.indy z) lda s ∧
    ImmForm [0xA2, z] (.ldxImm z) z ldx s ∧
    ReadForm [0xA6, z] 3 (.ldxZp z) (.zp z) ldx s ∧
    ReadForm [0xB6, z] 4 (.ldxZpy z) (.zpy z) ldx s ∧
    ReadForm [0xAE, lowByte w, highByte w] 4 (.ldxAbs w) (.abs w) ldx s ∧
    ReadForm [0xBE, lowByte w, highByte w] 4 (.ldxAbsy w) (.absy w) ldx s ∧
    ImmForm [0xA0, z] (.ldyImm z) z ldy s ∧
    ReadForm [0xA4, z] 3 (.ldyZp z) (.zp z) ldy s ∧
    ReadForm [0xB4, z] 4 (.ldyZpx z) (.zpx z) ldy s ∧
    ReadForm [0xAC, lowByte w, highByte w] 4 (.ldyAbs w) (.abs w) ldy s ∧
    ReadForm [0xBC, lowByte w, highByte w] 4 (.ldyAbsx w) (.absx w) ldy s

/-- O17, tier 2. R104, R105, R106: the logic instructions complete in every mode, with their
encodings and ticks. -/
def Obligations.LogicResults : Prop :=
  ∀ (s : State) (z : Byte) (w : Word),
    let ora := fun (v : Byte) (s : State) => { s with a := s.a ||| v, flags := nz (s.a ||| v) s.flags }
    let and := fun (v : Byte) (s : State) => { s with a := s.a &&& v, flags := nz (s.a &&& v) s.flags }
    let eor := fun (v : Byte) (s : State) => { s with a := s.a ^^^ v, flags := nz (s.a ^^^ v) s.flags }
    ImmForm [0x09, z] (.oraImm z) z ora s ∧
    ReadForm [0x05, z] 3 (.oraZp z) (.zp z) ora s ∧
    ReadForm [0x15, z] 4 (.oraZpx z) (.zpx z) ora s ∧
    ReadForm [0x0D, lowByte w, highByte w] 4 (.oraAbs w) (.abs w) ora s ∧
    ReadForm [0x1D, lowByte w, highByte w] 4 (.oraAbsx w) (.absx w) ora s ∧
    ReadForm [0x19, lowByte w, highByte w] 4 (.oraAbsy w) (.absy w) ora s ∧
    ReadForm [0x01, z] 6 (.oraIndx z) (.indx z) ora s ∧
    ReadForm [0x11, z] 5 (.oraIndy z) (.indy z) ora s ∧
    ImmForm [0x29, z] (.andImm z) z and s ∧
    ReadForm [0x25, z] 3 (.andZp z) (.zp z) and s ∧
    ReadForm [0x35, z] 4 (.andZpx z) (.zpx z) and s ∧
    ReadForm [0x2D, lowByte w, highByte w] 4 (.andAbs w) (.abs w) and s ∧
    ReadForm [0x3D, lowByte w, highByte w] 4 (.andAbsx w) (.absx w) and s ∧
    ReadForm [0x39, lowByte w, highByte w] 4 (.andAbsy w) (.absy w) and s ∧
    ReadForm [0x21, z] 6 (.andIndx z) (.indx z) and s ∧
    ReadForm [0x31, z] 5 (.andIndy z) (.indy z) and s ∧
    ImmForm [0x49, z] (.eorImm z) z eor s ∧
    ReadForm [0x45, z] 3 (.eorZp z) (.zp z) eor s ∧
    ReadForm [0x55, z] 4 (.eorZpx z) (.zpx z) eor s ∧
    ReadForm [0x4D, lowByte w, highByte w] 4 (.eorAbs w) (.abs w) eor s ∧
    ReadForm [0x5D, lowByte w, highByte w] 4 (.eorAbsx w) (.absx w) eor s ∧
    ReadForm [0x59, lowByte w, highByte w] 4 (.eorAbsy w) (.absy w) eor s ∧
    ReadForm [0x41, z] 6 (.eorIndx z) (.indx z) eor s ∧
    ReadForm [0x51, z] 5 (.eorIndy z) (.indy z) eor s

/-- O18, tier 2. R107, R108, R109, R111: the compares complete in every mode, with their encodings
and ticks. -/
def Obligations.CompareResults : Prop :=
  ∀ (s : State) (z : Byte) (w : Word),
    let compare := fun (r v : Byte) (f : Flags) => nz (r - v) { f with c := decide (v.toNat ≤ r.toNat) }
    let cmp := fun (v : Byte) (s : State) => { s with flags := compare s.a v s.flags }
    let cpx := fun (v : Byte) (s : State) => { s with flags := compare s.x v s.flags }
    let cpy := fun (v : Byte) (s : State) => { s with flags := compare s.y v s.flags }
    ImmForm [0xC9, z] (.cmpImm z) z cmp s ∧
    ReadForm [0xC5, z] 3 (.cmpZp z) (.zp z) cmp s ∧
    ReadForm [0xD5, z] 4 (.cmpZpx z) (.zpx z) cmp s ∧
    ReadForm [0xCD, lowByte w, highByte w] 4 (.cmpAbs w) (.abs w) cmp s ∧
    ReadForm [0xDD, lowByte w, highByte w] 4 (.cmpAbsx w) (.absx w) cmp s ∧
    ReadForm [0xD9, lowByte w, highByte w] 4 (.cmpAbsy w) (.absy w) cmp s ∧
    ReadForm [0xC1, z] 6 (.cmpIndx z) (.indx z) cmp s ∧
    ReadForm [0xD1, z] 5 (.cmpIndy z) (.indy z) cmp s ∧
    ImmForm [0xE0, z] (.cpxImm z) z cpx s ∧
    ReadForm [0xE4, z] 3 (.cpxZp z) (.zp z) cpx s ∧
    ReadForm [0xEC, lowByte w, highByte w] 4 (.cpxAbs w) (.abs w) cpx s ∧
    ImmForm [0xC0, z] (.cpyImm z) z cpy s ∧
    ReadForm [0xC4, z] 3 (.cpyZp z) (.zp z) cpy s ∧
    ReadForm [0xCC, lowByte w, highByte w] 4 (.cpyAbs w) (.abs w) cpy s

/-- O19, tier 1. R110: BIT completes in both modes. -/
def Obligations.BitResults : Prop :=
  ∀ (s : State) (z : Byte) (w : Word),
    let bit := fun (v : Byte) (s : State) =>
      { s with flags := { s.flags with z := decide (s.a &&& v = 0), n := v.getLsbD 7, v := v.getLsbD 6 } }
    ReadForm [0x24, z] 3 (.bitZp z) (.zp z) bit s ∧
    ReadForm [0x2C, lowByte w, highByte w] 4 (.bitAbs w) (.abs w) bit s

/-- O20, tier 2. R115: ADC completes in every mode; the adders are `BinaryAdderLaw` and
`DecimalAdditionLaw`. -/
def Obligations.AdcResults : Prop :=
  ∀ (s : State) (z : Byte) (w : Word),
    let adc := fun (v : Byte) (s : State) =>
      if s.flags.d then { s with a := (addDec s.a v s.flags).1, flags := (addDec s.a v s.flags).2 }
      else
        let (r, c, o) := addBin s.a v s.flags.c
        { s with a := r, flags := nz r { s.flags with c := c, v := o } }
    ImmForm [0x69, z] (.adcImm z) z adc s ∧
    ReadForm [0x65, z] 3 (.adcZp z) (.zp z) adc s ∧
    ReadForm [0x75, z] 4 (.adcZpx z) (.zpx z) adc s ∧
    ReadForm [0x6D, lowByte w, highByte w] 4 (.adcAbs w) (.abs w) adc s ∧
    ReadForm [0x7D, lowByte w, highByte w] 4 (.adcAbsx w) (.absx w) adc s ∧
    ReadForm [0x79, lowByte w, highByte w] 4 (.adcAbsy w) (.absy w) adc s ∧
    ReadForm [0x61, z] 6 (.adcIndx z) (.indx z) adc s ∧
    ReadForm [0x71, z] 5 (.adcIndy z) (.indy z) adc s

/-- O21, tier 2. R116: SBC completes in every mode, and what the complemented addition means as a
subtraction. -/
def Obligations.SbcResults : Prop :=
  ∀ (s : State) (z : Byte) (w : Word),
    let sbc := fun (v : Byte) (s : State) =>
      let (r, c, o) := addBin s.a (~~~v) s.flags.c
      { s with
        a := if s.flags.d then subDec s.a v s.flags.c else r
        flags := nz r { s.flags with c := c, v := o } }
    ImmForm [0xE9, z] (.sbcImm z) z sbc s ∧
    ReadForm [0xE5, z] 3 (.sbcZp z) (.zp z) sbc s ∧
    ReadForm [0xF5, z] 4 (.sbcZpx z) (.zpx z) sbc s ∧
    ReadForm [0xED, lowByte w, highByte w] 4 (.sbcAbs w) (.abs w) sbc s ∧
    ReadForm [0xFD, lowByte w, highByte w] 4 (.sbcAbsx w) (.absx w) sbc s ∧
    ReadForm [0xF9, lowByte w, highByte w] 4 (.sbcAbsy w) (.absy w) sbc s ∧
    ReadForm [0xE1, z] 6 (.sbcIndx z) (.indx z) sbc s ∧
    ReadForm [0xF1, z] 5 (.sbcIndy z) (.indy z) sbc s ∧
    ∀ (a v : Byte) (c : Bool),
      let borrow : Int := if c then 0 else 1
      let (r, cOut, vOut) := addBin a (~~~v) c
      (r.toNat : Int) = ((a.toNat : Int) - v.toNat - borrow) % 256 ∧
      (cOut = true ↔ 0 ≤ (a.toNat : Int) - v.toNat - borrow) ∧
      (vOut = true ↔ a.toInt - v.toInt - borrow < -128 ∨ 127 < a.toInt - v.toInt - borrow)

/-- O22, tier 2. R117: the adder of ADC and SBC. -/
def Obligations.BinaryAdderLaw : Prop :=
  ∀ (a m : Byte) (c : Bool),
    let sum := a.toNat + m.toNat + c.toNat
    let signed := a.toInt + m.toInt + c.toNat
    let (r, cOut, vOut) := addBin a m c
    r.toNat = sum % 256 ∧
    (cOut = true ↔ 255 < sum) ∧
    (vOut = true ↔ signed < -128 ∨ 127 < signed) ∧
    vOut = ((a ^^^ r) &&& (m ^^^ r)).getLsbD 7 ∧
    (vOut = true ↔ a.getLsbD 7 = m.getLsbD 7 ∧ r.getLsbD 7 ≠ a.getLsbD 7)

/-- O23, tier 2. R118: decimal addition. The spec gives the rule with low confidence
(notes/assumptions/12.md). -/
def Obligations.DecimalAdditionLaw : Prop :=
  (∀ (a v : Byte) (f : Flags),
    let c := f.c.toNat
    let low := a.toNat % 16 + v.toNat % 16 + c
    let low' := if low < 10 then low else (low + 6) % 16 + 16
    let t := a.toNat / 16 * 16 + v.toNat / 16 * 16 + low'
    let t' := if t < 160 then t else t + 96
    addDec a v f =
      (BitVec.ofNat 8 t',
        { f with
          n := t.testBit 7
          v := decide (a.getLsbD 7 = v.getLsbD 7) && decide (t.testBit 7 ≠ a.getLsbD 7)
          c := decide (256 ≤ t')
          z := decide ((a.toNat + v.toNat + c) % 256 = 0) })) ∧
  ∀ (a v : Byte) (f : Flags),
    a.toNat % 16 < 10 → a.toNat / 16 < 10 → v.toNat % 16 < 10 → v.toNat / 16 < 10 →
    let (r, g) := addDec a v f
    let value := fun x : Byte => x.toNat / 16 * 10 + x.toNat % 16
    r.toNat % 16 < 10 ∧ r.toNat / 16 < 10 ∧
    value r + 100 * g.c.toNat = value a + value v + f.c.toNat

/-- O24, tier 2. R119: decimal subtraction. The spec gives the rule with low confidence
(notes/assumptions/12.md). -/
def Obligations.DecimalSubtractionLaw : Prop :=
  (∀ (a v : Byte) (c : Bool),
    let low : Int := (a.toNat % 16 : Nat) - (v.toNat % 16 : Nat) + c.toNat - 1
    let low' : Int := if 0 ≤ low then low else (low - 6) % 16 - 16
    let t : Int := (a.toNat / 16 * 16 : Nat) - (v.toNat / 16 * 16 : Nat) + low'
    ((subDec a v c).toNat : Int) = (if 0 ≤ t then t else t - 96) % 256) ∧
  ∀ (a v : Byte) (c : Bool),
    a.toNat % 16 < 10 → a.toNat / 16 < 10 → v.toNat % 16 < 10 → v.toNat / 16 < 10 →
    let r := subDec a v c
    let value := fun x : Byte => x.toNat / 16 * 10 + x.toNat % 16
    let difference : Int := value a - value v - (if c then 0 else 1)
    r.toNat % 16 < 10 ∧ r.toNat / 16 < 10 ∧ (value r : Int) = difference % 100 ∧
    ((addBin a (~~~v) c).2.1 = true ↔ 0 ≤ difference)

/-- O25, tier 2. R126, R127: INC and DEC complete in every mode. The clause of `Stored` that a write
in a device window leaves memory as it was is the model's choice (notes/assumptions/4.md). -/
def Obligations.IncDecMemoryResults : Prop :=
  ∀ (s : State) (z : Byte) (w : Word),
    let inc := fun (v : Byte) (f : Flags) => (v + 1, f)
    let dec := fun (v : Byte) (f : Flags) => (v - 1, f)
    RmwForm [0xE6, z] 5 (.incZp z) (.zp z) inc s ∧
    RmwForm [0xF6, z] 6 (.incZpx z) (.zpx z) inc s ∧
    RmwForm [0xEE, lowByte w, highByte w] 6 (.incAbs w) (.abs w) inc s ∧
    RmwForm [0xFE, lowByte w, highByte w] 7 (.incAbsx w) (.absx w) inc s ∧
    RmwForm [0xC6, z] 5 (.decZp z) (.zp z) dec s ∧
    RmwForm [0xD6, z] 6 (.decZpx z) (.zpx z) dec s ∧
    RmwForm [0xCE, lowByte w, highByte w] 6 (.decAbs w) (.abs w) dec s ∧
    RmwForm [0xDE, lowByte w, highByte w] 7 (.decAbsx w) (.absx w) dec s

/-- O26, tier 2. R128, R129: the shifts complete in every mode. The clause of `Stored` that a write
in a device window leaves memory as it was is the model's choice (notes/assumptions/4.md). -/
def Obligations.ShiftResults : Prop :=
  ∀ (s : State) (z : Byte) (w : Word),
    let asl := fun (v : Byte) (f : Flags) => (v <<< 1, { f with c := v.getLsbD 7 })
    let lsr := fun (v : Byte) (f : Flags) => (v >>> 1, { f with c := v.getLsbD 0 })
    RmwAccForm [0x0A] .aslAcc asl s ∧
    RmwForm [0x06, z] 5 (.aslZp z) (.zp z) asl s ∧
    RmwForm [0x16, z] 6 (.aslZpx z) (.zpx z) asl s ∧
    RmwForm [0x0E, lowByte w, highByte w] 6 (.aslAbs w) (.abs w) asl s ∧
    RmwForm [0x1E, lowByte w, highByte w] 7 (.aslAbsx w) (.absx w) asl s ∧
    RmwAccForm [0x4A] .lsrAcc lsr s ∧
    RmwForm [0x46, z] 5 (.lsrZp z) (.zp z) lsr s ∧
    RmwForm [0x56, z] 6 (.lsrZpx z) (.zpx z) lsr s ∧
    RmwForm [0x4E, lowByte w, highByte w] 6 (.lsrAbs w) (.abs w) lsr s ∧
    RmwForm [0x5E, lowByte w, highByte w] 7 (.lsrAbsx w) (.absx w) lsr s

/-- O27, tier 2. R130, R131: the rotates complete in every mode. The clause of `Stored` that a write
in a device window leaves memory as it was is the model's choice (notes/assumptions/4.md). -/
def Obligations.RotateResults : Prop :=
  ∀ (s : State) (z : Byte) (w : Word),
    let rol := fun (v : Byte) (f : Flags) =>
      (v <<< 1 ||| (if f.c then 0x01 else 0x00), { f with c := v.getLsbD 7 })
    let ror := fun (v : Byte) (f : Flags) =>
      (v >>> 1 ||| (if f.c then 0x80 else 0x00), { f with c := v.getLsbD 0 })
    RmwAccForm [0x2A] .rolAcc rol s ∧
    RmwForm [0x26, z] 5 (.rolZp z) (.zp z) rol s ∧
    RmwForm [0x36, z] 6 (.rolZpx z) (.zpx z) rol s ∧
    RmwForm [0x2E, lowByte w, highByte w] 6 (.rolAbs w) (.abs w) rol s ∧
    RmwForm [0x3E, lowByte w, highByte w] 7 (.rolAbsx w) (.absx w) rol s ∧
    RmwAccForm [0x6A] .rorAcc ror s ∧
    RmwForm [0x66, z] 5 (.rorZp z) (.zp z) ror s ∧
    RmwForm [0x76, z] 6 (.rorZpx z) (.zpx z) ror s ∧
    RmwForm [0x6E, lowByte w, highByte w] 6 (.rorAbs w) (.abs w) ror s ∧
    RmwForm [0x7E, lowByte w, highByte w] 7 (.rorAbsx w) (.absx w) ror s

/-- O28, tier 2. R130, R131: a rotation of nine bits. -/
def Obligations.RotatesUndoEachOther : Prop :=
  ∀ (v : Byte) (f : Flags),
    let rol := fun p : Byte × Flags => p.2.rolByte p.1
    let ror := fun p : Byte × Flags => p.2.rorByte p.1
    ror (rol (v, f)) = (v, f) ∧ rol (ror (v, f)) = (v, f) ∧
    rol^[9] (v, f) = (v, f) ∧ ror^[9] (v, f) = (v, f)

/-- O29, tier 2. R136, R137, R138: the stores complete in every mode. The clause of `Stored` that a
write in a device window leaves memory as it was is the model's choice (notes/assumptions/4.md). -/
def Obligations.StoreResults : Prop :=
  ∀ (s : State) (z : Byte) (w : Word),
    StoreForm [0x85, z] 3 (.staZp z) (.zp z) s.a s ∧
    StoreForm [0x95, z] 4 (.staZpx z) (.zpx z) s.a s ∧
    StoreForm [0x8D, lowByte w, highByte w] 4 (.staAbs w) (.abs w) s.a s ∧
    StoreForm [0x9D, lowByte w, highByte w] 5 (.staAbsx w) (.absx w) s.a s ∧
    StoreForm [0x99, lowByte w, highByte w] 5 (.staAbsy w) (.absy w) s.a s ∧
    StoreForm [0x81, z] 6 (.staIndx z) (.indx z) s.a s ∧
    StoreForm [0x91, z] 6 (.staIndy z) (.indy z) s.a s ∧
    StoreForm [0x86, z] 3 (.stxZp z) (.zp z) s.x s ∧
    StoreForm [0x96, z] 4 (.stxZpy z) (.zpy z) s.x s ∧
    StoreForm [0x8E, lowByte w, highByte w] 4 (.stxAbs w) (.abs w) s.x s ∧
    StoreForm [0x84, z] 3 (.styZp z) (.zp z) s.y s ∧
    StoreForm [0x94, z] 4 (.styZpx z) (.zpx z) s.y s ∧
    StoreForm [0x8C, lowByte w, highByte w] 4 (.styAbs w) (.abs w) s.y s

/-- O30, tier 1. R141 to R147: the flag instructions complete. -/
def Obligations.FlagInstructionResults : Prop :=
  ∀ s : State,
    ImpliedForm [0x18] .clc { s with flags := { s.flags with c := false } } s ∧
    ImpliedForm [0xD8] .cld { s with flags := { s.flags with d := false } } s ∧
    ImpliedForm [0x58] .cli { s with flags := { s.flags with i := false } } s ∧
    ImpliedForm [0xB8] .clv { s with flags := { s.flags with v := false } } s ∧
    ImpliedForm [0x38] .sec { s with flags := { s.flags with c := true } } s ∧
    ImpliedForm [0xF8] .sed { s with flags := { s.flags with d := true } } s ∧
    ImpliedForm [0x78] .sei { s with flags := { s.flags with i := true } } s

/-- O31, tier 1. R148 to R158: NOP, counts and transfers complete. -/
def Obligations.CountAndTransferResults : Prop :=
  ∀ s : State,
    ImpliedForm [0xEA] .nop s s ∧
    ImpliedForm [0xE8] .inx { s with x := s.x + 1, flags := nz (s.x + 1) s.flags } s ∧
    ImpliedForm [0xC8] .iny { s with y := s.y + 1, flags := nz (s.y + 1) s.flags } s ∧
    ImpliedForm [0xCA] .dex { s with x := s.x - 1, flags := nz (s.x - 1) s.flags } s ∧
    ImpliedForm [0x88] .dey { s with y := s.y - 1, flags := nz (s.y - 1) s.flags } s ∧
    ImpliedForm [0xAA] .tax { s with x := s.a, flags := nz s.a s.flags } s ∧
    ImpliedForm [0xA8] .tay { s with y := s.a, flags := nz s.a s.flags } s ∧
    ImpliedForm [0xBA] .tsx { s with x := s.sp, flags := nz s.sp s.flags } s ∧
    ImpliedForm [0x8A] .txa { s with a := s.x, flags := nz s.x s.flags } s ∧
    ImpliedForm [0x9A] .txs { s with sp := s.x } s ∧
    ImpliedForm [0x98] .tya { s with a := s.y, flags := nz s.y s.flags } s

/-- O32, tier 2. R166, R167: PHA and PHP complete. The clause of `Stored` that a write in a device
window leaves memory as it was is the model's choice (notes/assumptions/4.md). -/
def Obligations.PushResults : Prop :=
  ∀ s : State,
    PushForm [0x48] .pha s.a s ∧
    PushForm [0x08] .php (s.flags.packP true) s ∧
    s.flags.packP true &&& 0x30 = 0x30

/-- O33, tier 1. R168, R169: PLA and PLP complete. -/
def Obligations.PullResults : Prop :=
  ∀ s : State,
    PullForm [0x68] .pla (fun v s => { s with a := v, flags := nz v s.flags }) s ∧
    PullForm [0x28] .plp
      (fun v s => { s with flags :=
        { n := v.getLsbD 7, v := v.getLsbD 6, d := v.getLsbD 3, i := v.getLsbD 2,
          z := v.getLsbD 1, c := v.getLsbD 0 } }) s

/-- O34, tier 2. R170: JSR completes. The clause of `Stored` that a write in a device window leaves
memory as it was is the model's choice (notes/assumptions/4.md). -/
def Obligations.JsrResult : Prop :=
  ∀ (s : State) (target : Word),
    let ret := s.pc - 1
    let a0 := 0x0100 + s.sp.setWidth 16
    let a1 := 0x0100 + (s.sp - 1).setWidth 16
    encode (.jsr target) = [0x20, lowByte target, highByte target] ∧
    ∃ t, exec (.jsr target) s = .next t ∧
      t = { s with
        pc := target
        sp := s.sp - 2
        cycles := s.cycles + (6 - 3)
        mem := t.mem
        bus := writeOf a1 (lowByte ret) :: writeOf a0 (highByte ret) :: s.bus } ∧
      Stored [(a0, highByte ret), (a1, lowByte ret)] s t

/-- O35, tier 2. R171: RTS completes. R221 speaks otherwise of an RTS inside a handler; that R171
holds there too is the model's choice (notes/assumptions/18.md). -/
def Obligations.RtsResult : Prop :=
  ∀ s : State,
    let a1 := 0x0100 + (s.sp + 1).setWidth 16
    let a2 := 0x0100 + (s.sp + 2).setWidth 16
    let lo := s.busAnswer a1
    let b1 := readOf a1 lo :: s.bus
    let hi := ({ s with bus := b1 } : State).busAnswer a2
    encode .rts = [0x60] ∧
    exec .rts s = .next
      { s with
        pc := wordOf hi lo + 1
        sp := s.sp + 2
        cycles := s.cycles + (6 - 1)
        bus := readOf a2 hi :: b1 }

/-- O36, tier 2. R170 with R171: call and return match. -/
def Obligations.JsrRtsRoundTrip : Prop :=
  ∀ (s : State) (target : Word), s.mem.wf = true →
    let a0 := 0x0100 + s.sp.setWidth 16
    let a1 := 0x0100 + (s.sp - 1).setWidth 16
    s.inDevice a0 = false → s.inDevice a1 = false →
    ∃ t, exec (.jsr target) s = .next t ∧ t.pc = target ∧
      ∀ u : State, u.sp = t.sp → u.deviceWindows = t.deviceWindows →
        u.peek a0 = t.peek a0 → u.peek a1 = t.peek a1 →
        ∃ r, exec .rts u = .next r ∧ r.pc = s.pc ∧ r.sp = s.sp

/-- O37, tier 2. R172: BRK completes; `Entered` is the shared entry, with its five ticks. The clause
of `Stored` that a write in a device window leaves memory as it was is the model's choice
(notes/assumptions/4.md). -/
def Obligations.BrkResult : Prop :=
  ∀ s : State,
    encode .brk = [0x00] ∧
    ∃ t, exec .brk s = .next t ∧
      Entered 0xFFFE true { s with pc := s.pc + 1, cycles := s.cycles + (2 - 1) } t

/-- O38, tier 2. R173: RTI completes. -/
def Obligations.RtiResult : Prop :=
  ∀ s : State,
    let a1 := 0x0100 + (s.sp + 1).setWidth 16
    let a2 := 0x0100 + (s.sp + 2).setWidth 16
    let a3 := 0x0100 + (s.sp + 3).setWidth 16
    let p := s.busAnswer a1
    let b1 := readOf a1 p :: s.bus
    let lo := ({ s with bus := b1 } : State).busAnswer a2
    let b2 := readOf a2 lo :: b1
    let hi := ({ s with bus := b2 } : State).busAnswer a3
    encode .rti = [0x40] ∧
    exec .rti s = .next
      { s with
        pc := wordOf hi lo
        sp := s.sp + 3
        flags :=
          { n := p.getLsbD 7, v := p.getLsbD 6, d := p.getLsbD 3, i := p.getLsbD 2,
            z := p.getLsbD 1, c := p.getLsbD 0 }
        cycles := s.cycles + (6 - 1)
        bus := readOf a3 hi :: b2 }

/-- O39, tier 2. R217, R221: entry and return match. In the BRK clause `s` is the state after the
opcode fetch. -/
def Obligations.HandlerReturnResumes : Prop :=
  ∀ s : State, s.mem.wf = true →
    let a0 := 0x0100 + s.sp.setWidth 16
    let a1 := 0x0100 + (s.sp - 1).setWidth 16
    let a2 := 0x0100 + (s.sp - 2).setWidth 16
    s.inDevice a0 = false → s.inDevice a1 = false → s.inDevice a2 = false →
    let resumes := fun (t : State) (pc : Word) =>
      ∀ u : State, u.sp = t.sp → u.deviceWindows = t.deviceWindows →
        u.peek a0 = t.peek a0 → u.peek a1 = t.peek a1 → u.peek a2 = t.peek a2 →
        ∃ r, exec .rti u = .next r ∧ r.pc = pc ∧ r.flags = s.flags ∧ r.sp = s.sp
    resumes (takeNmi s) s.pc ∧ resumes (takeIrq s) s.pc ∧
    ∃ t, exec .brk s = .next t ∧ resumes t (s.pc + 1)

/-- O40, tier 1. R180: both forms of JMP complete. -/
def Obligations.JmpResults : Prop :=
  ∀ (s : State) (target ptr : Word),
    let next := wordOf (highByte ptr) (lowByte ptr + 1)
    let lo := s.busAnswer ptr
    let hi := ({ s with bus := readOf ptr lo :: s.bus } : State).busAnswer next
    encode (.jmpAbs target) = [0x4C, lowByte target, highByte target] ∧
    exec (.jmpAbs target) s = .next { s with pc := target, cycles := s.cycles + (3 - 3) } ∧
    encode (.jmpInd ptr) = [0x6C, lowByte ptr, highByte ptr] ∧
    exec (.jmpInd ptr) s = .next
      { s with
        pc := wordOf hi lo
        cycles := s.cycles + (5 - 3)
        bus := readOf next hi :: readOf ptr lo :: s.bus }

/-- O41, tier 2. R181 to R189: the branches complete, taken or not. -/
def Obligations.BranchResults : Prop :=
  ∀ (s : State) (off : Byte),
    BranchForm [0x10, off] (.bpl off) off (!s.flags.n) s ∧
    BranchForm [0x30, off] (.bmi off) off (s.flags.n) s ∧
    BranchForm [0x50, off] (.bvc off) off (!s.flags.v) s ∧
    BranchForm [0x70, off] (.bvs off) off (s.flags.v) s ∧
    BranchForm [0x90, off] (.bcc off) off (!s.flags.c) s ∧
    BranchForm [0xB0, off] (.bcs off) off (s.flags.c) s ∧
    BranchForm [0xD0, off] (.bne off) off (!s.flags.z) s ∧
    BranchForm [0xF0, off] (.beq off) off (s.flags.z) s

/-- O42, tier 1. R211: the one fault, with the state it leaves. -/
def Obligations.IllegalOpcodeFault : Prop :=
  (∀ s : State, s.poll = .instruction → s.busAnswer s.pc ∈ illegalOpcodes →
    step s = .fault (.illegalOpcode (s.busAnswer s.pc)
      { s with
        pc := s.pc + 1
        cycles := s.cycles + 1
        bus := readOf s.pc (s.busAnswer s.pc) :: s.bus })) ∧
  ∀ (op : Byte) (s : State), exec (.illegal op) s = .fault (.illegalOpcode op s)

/-- O43, tier 1. R67: the dispatch table, written from the matrix, against the list and the nibble
description. -/
def Obligations.IllegalBytes : Prop :=
  illegalOpcodes.length = 105 ∧
  (∀ op : Byte, (dispatchEntry op).isNone = true ↔ op ∈ illegalOpcodes) ∧
  ∀ op : Byte, op ∈ illegalOpcodes ↔
    op.toNat % 16 ∈ [3, 7, 11, 15] ∨ (op.toNat % 16 = 2 ∧ op ≠ 0xA2) ∨
    op ∈ [0x04, 0x14, 0x34, 0x44, 0x54, 0x64, 0x74, 0xD4, 0xF4] ∨
    op ∈ [0x0C, 0x1C, 0x3C, 0x5C, 0x7C, 0x9C, 0xDC, 0xFC] ∨
    op ∈ [0x1A, 0x3A, 0x5A, 0x7A, 0xDA, 0xFA] ∨ op ∈ [0x80, 0x89, 0x9E]

/-- O44, tier 2. R216, R217: the two uses of the entry sequence. The clause of `Stored` that a write
in a device window leaves memory as it was is the model's choice (notes/assumptions/4.md). -/
def Obligations.InterruptEntryResult : Prop :=
  ∀ s : State,
    (s.nmiPending = true →
      ∃ t, step s = .next t ∧
        Entered 0xFFFA false { s with nmiPending := false, cycles := s.cycles + 2 } t) ∧
    (s.nmiPending = false → s.irqLine = true → s.flags.i = false →
      ∃ t, step s = .next t ∧ Entered 0xFFFE false { s with cycles := s.cycles + 2 } t)

/-- O45, tier 1. R196, R214: the step in full. The step has no other arm. -/
def Obligations.StepRunsDecodedInstruction : Prop :=
  ∀ s : State,
    (s.nmiPending = true → step s = .next (takeNmi s)) ∧
    (s.nmiPending = false → s.irqLine = true → s.flags.i = false → step s = .next (takeIrq s)) ∧
    (s.nmiPending = false → (s.irqLine = false ∨ s.flags.i = true) →
      ∀ i rest, decode (s.fetchBytes 3).1 = .ok (i, rest) →
        step s = exec i (s.fetchBytes i.length).2 ∧
        (s.fetchBytes i.length).1 = encode i ∧
        (s.fetchBytes i.length).2 =
          { s with
            pc := s.pc + BitVec.ofNat 16 i.length
            cycles := s.cycles + i.length
            bus := (fetchReads s.pc (encode i)).reverse ++ s.bus }) ∧
    (s.inDevice s.pc = false → s.inDevice (s.pc + 1) = false → s.inDevice (s.pc + 2) = false →
      (s.fetchBytes 3).1 = [s.peek s.pc, s.peek (s.pc + 1), s.peek (s.pc + 2)])

/-- O46, tier 1. R66, R67, R69: a sanity check of the decoder. The last clause is the model's choice
(notes/assumptions/14.md). -/
def Obligations.DecodeSpecWords : Prop :=
  decode [0xE8] = .ok (.inx, []) ∧
  decode [0x0A] = .ok (.aslAcc, []) ∧
  decode [0xA9, 0x80] = .ok (.ldaImm 0x80, []) ∧
  decode [0xA5, 0x10] = .ok (.ldaZp 0x10, []) ∧
  decode [0xB5, 0x10] = .ok (.ldaZpx 0x10, []) ∧
  decode [0xB6, 0x10] = .ok (.ldxZpy 0x10, []) ∧
  decode [0xAD, 0xFF, 0x20] = .ok (.ldaAbs 0x20FF, []) ∧
  decode [0xBD, 0xFF, 0x20] = .ok (.ldaAbsx 0x20FF, []) ∧
  decode [0xB9, 0xFF, 0x20] = .ok (.ldaAbsy 0x20FF, []) ∧
  decode [0x6C, 0xFF, 0x30] = .ok (.jmpInd 0x30FF, []) ∧
  decode [0xA1, 0x20] = .ok (.ldaIndx 0x20, []) ∧
  decode [0xB1, 0x20] = .ok (.ldaIndy 0x20, []) ∧
  decode [0xA2, 0x00] = .ok (.ldxImm 0x00, []) ∧
  decode [0xE0, 0x05] = .ok (.cpxImm 0x05, []) ∧
  decode [0xD0, 0xFB, 0x00] = .ok (.bne 0xFB, [0x00]) ∧
  decode [0x00] = .ok (.brk, []) ∧
  decode [0x89, 0x10] = .ok (.illegal 0x89, [0x10]) ∧
  decode [0x20, 0x34] = .error (.operandMissing 0x20)

/-- O47, tier 3. No bit of an encoding is dropped (R61, R62, R68). -/
def Obligations.DecodeEncodeRoundTrip : Prop :=
  ∀ (i : Instr) (rest : List Byte), i.wf = true → decode (encode i ++ rest) = .ok (i, rest)

/-- O48, tier 2. Each byte sequence has one meaning, and the decoder is total on it. -/
def Obligations.DecodedBytesEncodeBack : Prop :=
  (∀ (bytes : List Byte) (i : Instr) (rest : List Byte),
    decode bytes = .ok (i, rest) → i.wf = true ∧ encode i ++ rest = bytes) ∧
  ∀ (a b c : Byte) (rest : List Byte), ∃ i r, decode (a :: b :: c :: rest) = .ok (i, r)

/-- O49, tier 1. R251: the two tables of base cycles agree. -/
def Obligations.PublishedBaseCycles : Prop :=
  ∀ op : Byte,
    ((dispatchEntry op).all fun e => e.baseCycles == publishedCycles e.instruction e.mode) = true

/-- O50, tier 3. The invariant `State.Inv` over every state that meets it. -/
def Obligations.StepKeepsInvariant : Prop :=
  ∀ s : State, s.Inv →
    (∀ t, step s = .next t → t.Inv) ∧ (∀ f, step s = .fault f → f.stateLeft.Inv)

/-- O51, tier 2. R250: the cycle identity for every opcode, and the 31 opcodes with a possible
penalty. -/
def Obligations.StepCyclesMatchTable : Prop :=
  (∀ (s : State) (i : Instr) (rest : List Byte) (n : Nat),
    s.poll = .instruction → decode (s.fetchBytes 3).1 = .ok (i, rest) → i.baseCycles = some n →
    ∃ t, step s = .next t ∧
      t.cycles = s.cycles + n + penalty i (s.fetchBytes i.length).2) ∧
  ∀ op : Byte,
    (∃ (i : Instr) (s : State), i.opcode = op ∧ penalty i s ≠ 0) ↔
      op ∈ [0x1D, 0x19, 0x11, 0x3D, 0x39, 0x31, 0x5D, 0x59, 0x51, 0x7D, 0x79, 0x71, 0xBD, 0xB9, 0xB1,
        0xBE, 0xBC, 0xDD, 0xD9, 0xD1, 0xFD, 0xF9, 0xF1,
        0x10, 0x30, 0x50, 0x70, 0x90, 0xB0, 0xD0, 0xF0]

/-- O52, tier 3. R41, R50: one total order of transactions, plain memory answering what was written
last. The clause of `replay` that a write in a device window leaves memory as it was is the model's
choice (notes/assumptions/4.md), as is the record itself (notes/assumptions/8.md). -/
def Obligations.StepFollowsBusRecord : Prop :=
  ∀ s : State,
    (∀ t, step s = .next t → Extends s t) ∧ (∀ f, step s = .fault f → Extends s f.stateLeft)

/-- O53, tier 2. The writers of each register, over all instructions. -/
def Obligations.RegisterWriters : Prop :=
  ∀ (i : Instr) (s t : State), exec i s = .next t →
    (t.a ≠ s.a →
      i.mnemonic ∈ [some .lda, some .ora, some .and, some .eor, some .adc, some .sbc, some .pla,
        some .txa, some .tya] ∨ i.mode = some .acc) ∧
    (t.x ≠ s.x → i.mnemonic ∈ [some .ldx, some .tax, some .tsx, some .inx, some .dex]) ∧
    (t.y ≠ s.y → i.mnemonic ∈ [some .ldy, some .tay, some .iny, some .dey]) ∧
    (t.sp ≠ s.sp → i.mnemonic = some .txs ∨ i.shape = some .stack) ∧
    (t.pc ≠ s.pc →
      i.mnemonic ∈ [some .jmp, some .jsr, some .rts, some .rti, some .brk] ∨
        i.shape = some .branch) ∧
    t.nmiPending = s.nmiPending ∧ t.irqLine = s.irqLine ∧ t.deviceWindows = s.deviceWindows

/-- O54, tier 2. R29: who writes each flag, over all instructions. -/
def Obligations.FlagWriters : Prop :=
  ∀ (i : Instr) (s t : State), exec i s = .next t →
    let users : List (Option Mnemonic) := [some .lda, some .ldx, some .ldy, some .ora, some .and,
      some .eor, some .adc, some .sbc, some .cmp, some .cpx, some .cpy, some .inc, some .dec,
      some .asl, some .lsr, some .rol, some .ror, some .inx, some .iny, some .dex, some .dey,
      some .tax, some .tay, some .tsx, some .txa, some .tya, some .pla, some .bit, some .plp,
      some .rti]
    (t.flags.n ≠ s.flags.n → i.mnemonic ∈ users) ∧
    (t.flags.z ≠ s.flags.z → i.mnemonic ∈ users) ∧
    (t.flags.v ≠ s.flags.v →
      i.mnemonic ∈ [some .adc, some .sbc, some .bit, some .clv, some .plp, some .rti]) ∧
    (t.flags.d ≠ s.flags.d → i.mnemonic ∈ [some .sed, some .cld, some .plp, some .rti]) ∧
    (t.flags.i ≠ s.flags.i →
      i.mnemonic ∈ [some .sei, some .cli, some .brk, some .plp, some .rti]) ∧
    (t.flags.c ≠ s.flags.c →
      i.mnemonic ∈ [some .adc, some .sbc, some .cmp, some .cpx, some .cpy, some .asl, some .lsr,
        some .rol, some .ror, some .sec, some .clc, some .plp, some .rti])

/-- O55, tier 2. R43: which instructions access memory, and how often. -/
def Obligations.TransactionCounts : Prop :=
  ∀ (i : Instr) (s t : State), exec i s = .next t →
    (∃ evs, t.bus = evs ++ s.bus ∧
      evs.countP (fun e => e.kind == .read) = (dataAccesses i).1 ∧
      evs.countP (fun e => e.kind == .write) = (dataAccesses i).2 ∧
      ∀ b : Nat, (∀ e ∈ evs, e.kind = .write → e.addr.toNat ≠ b) → t.mem.read b = s.mem.read b) ∧
    ((dataAccesses i).2 = 0 → t.mem = s.mem)

/-- O56, tier 2. R195, R198: the outcomes of a step. Every state steps. -/
def Obligations.StepOutcomesAndTicks : Prop :=
  ∀ s : State,
    (∃ t, step s = .next t ∧ s.cycles + 2 ≤ t.cycles ∧ t.cycles ≤ s.cycles + 7 ∧
      (s.poll ≠ .instruction → t.cycles = s.cycles + 7)) ∨
    (s.poll = .instruction ∧ s.busAnswer s.pc ∈ illegalOpcodes ∧
      ∃ left, step s = .fault (.illegalOpcode (s.busAnswer s.pc) left) ∧
        left.cycles = s.cycles + 1)

/-- O57, tier 2. R32, R203: between steps the host may do what R202 lists, and no run lowers
`cycles`. -/
def Obligations.HostTurnsKeepInvariant : Prop :=
  ∀ (s : State) (turns : List Turn), s.Inv →
    (s.turns turns).Inv ∧ s.cycles ≤ (s.turns turns).cycles

/-- O58, tier 2. R33, R213: the latch of the NMI input, over the host turns of
notes/assumptions/16.md. -/
def Obligations.NmiLatch : Prop :=
  ∀ s : State,
    let edge := s.hostEvent .nmiEdge
    edge = { s with nmiPending := true } ∧
    edge.hostEvent .nmiEdge = edge ∧
    step edge = .next (takeNmi edge) ∧
    (takeNmi edge).nmiPending = false ∧
    edge.resetOp.nmiPending = false ∧
    ∀ turn : Turn,
      (s.nmiPending = false → (s.turn turn).nmiPending = true → turn = .event .nmiEdge) ∧
      (s.nmiPending = true → (s.turn turn).nmiPending = false →
        turn = .step ∨ turn = .event .reset)

/-- O59, tier 2. R32, R198: the counter as the host reads it, under the premise R32 names. What it
shows past 2^64 is a free value (notes/assumptions/5.md). -/
def Obligations.CycleCounterView : Prop :=
  State.created.cycleCounter = 0 ∧
  ∀ s : State,
    (s.cycles < 2 ^ 64 → s.cycleCounter.toNat = s.cycles) ∧
    (2 ^ 64 ≤ s.cycles → s.cycleCounter = Config.cycleOverflow s.cycles) ∧
    (s.cycles + 7 < 2 ^ 64 →
      (∀ t, step s = .next t →
        t.cycleCounter.toNat = s.cycleCounter.toNat + cyclesElapsed s t ∧
        2 ≤ cyclesElapsed s t ∧ cyclesElapsed s t ≤ 7) ∧
      (∀ f, step s = .fault f → f.stateLeft.cycleCounter.toNat = s.cycleCounter.toNat + 1) ∧
      s.resetOp.cycleCounter.toNat = s.cycleCounter.toNat + 7)

/-- O60, tier 2. R32 ("no instruction can read it"), R33 ("No instruction reads or writes it") and
R214 (the IRQ level is read by the poll alone), over all instructions. -/
def Obligations.NoInstructionReadsCyclesOrInputs : Prop :=
  ∀ (i : Instr) (s t : State) (c : Nat) (pending line : Bool), exec i s = .next t →
    exec i { s with cycles := c, nmiPending := pending, irqLine := line } =
      .next { t with cycles := c + cyclesElapsed s t, nmiPending := pending, irqLine := line }

end
end

