-- ==== Sys2Proof/Laws/State.lean ====
section
/-!
SUPPORT. What each shared update leaves in each field of the state: true by definition, so that no
later proof unfolds an update.
-/

namespace Sys2Proof.Machine

@[simp] theorem State.tick_a (s : State) (n : Nat) : (s.tick n).a = s.a := rfl
@[simp] theorem State.tick_x (s : State) (n : Nat) : (s.tick n).x = s.x := rfl
@[simp] theorem State.tick_y (s : State) (n : Nat) : (s.tick n).y = s.y := rfl
@[simp] theorem State.tick_sp (s : State) (n : Nat) : (s.tick n).sp = s.sp := rfl
@[simp] theorem State.tick_pc (s : State) (n : Nat) : (s.tick n).pc = s.pc := rfl
@[simp] theorem State.tick_flags (s : State) (n : Nat) : (s.tick n).flags = s.flags := rfl
@[simp] theorem State.tick_cycles (s : State) (n : Nat) : (s.tick n).cycles = s.cycles + n := rfl
@[simp] theorem State.tick_nmiPending (s : State) (n : Nat) : (s.tick n).nmiPending = s.nmiPending := rfl
@[simp] theorem State.tick_irqLine (s : State) (n : Nat) : (s.tick n).irqLine = s.irqLine := rfl
@[simp] theorem State.tick_mem (s : State) (n : Nat) : (s.tick n).mem = s.mem := rfl
@[simp] theorem State.tick_deviceWindows (s : State) (n : Nat) : (s.tick n).deviceWindows = s.deviceWindows := rfl
@[simp] theorem State.tick_bus (s : State) (n : Nat) : (s.tick n).bus = s.bus := rfl

@[simp] theorem State.memRead_a (s : State) (a : Word) : (s.memRead a).2.a = s.a := rfl
@[simp] theorem State.memRead_x (s : State) (a : Word) : (s.memRead a).2.x = s.x := rfl
@[simp] theorem State.memRead_y (s : State) (a : Word) : (s.memRead a).2.y = s.y := rfl
@[simp] theorem State.memRead_sp (s : State) (a : Word) : (s.memRead a).2.sp = s.sp := rfl
@[simp] theorem State.memRead_pc (s : State) (a : Word) : (s.memRead a).2.pc = s.pc := rfl
@[simp] theorem State.memRead_flags (s : State) (a : Word) : (s.memRead a).2.flags = s.flags := rfl
@[simp] theorem State.memRead_cycles (s : State) (a : Word) : (s.memRead a).2.cycles = s.cycles + 1 := rfl
@[simp] theorem State.memRead_nmiPending (s : State) (a : Word) : (s.memRead a).2.nmiPending = s.nmiPending := rfl
@[simp] theorem State.memRead_irqLine (s : State) (a : Word) : (s.memRead a).2.irqLine = s.irqLine := rfl
@[simp] theorem State.memRead_mem (s : State) (a : Word) : (s.memRead a).2.mem = s.mem := rfl
@[simp] theorem State.memRead_deviceWindows (s : State) (a : Word) : (s.memRead a).2.deviceWindows = s.deviceWindows := rfl
@[simp] theorem State.memRead_bus (s : State) (a : Word) : (s.memRead a).2.bus = ⟨.read, a, s.busAnswer a⟩ :: s.bus := rfl

@[simp] theorem State.memWrite_a (s : State) (a : Word) (v : Byte) : (s.memWrite a v).a = s.a := rfl
@[simp] theorem State.memWrite_x (s : State) (a : Word) (v : Byte) : (s.memWrite a v).x = s.x := rfl
@[simp] theorem State.memWrite_y (s : State) (a : Word) (v : Byte) : (s.memWrite a v).y = s.y := rfl
@[simp] theorem State.memWrite_sp (s : State) (a : Word) (v : Byte) : (s.memWrite a v).sp = s.sp := rfl
@[simp] theorem State.memWrite_pc (s : State) (a : Word) (v : Byte) : (s.memWrite a v).pc = s.pc := rfl
@[simp] theorem State.memWrite_flags (s : State) (a : Word) (v : Byte) : (s.memWrite a v).flags = s.flags := rfl
@[simp] theorem State.memWrite_cycles (s : State) (a : Word) (v : Byte) : (s.memWrite a v).cycles = s.cycles + 1 := rfl
@[simp] theorem State.memWrite_nmiPending (s : State) (a : Word) (v : Byte) : (s.memWrite a v).nmiPending = s.nmiPending := rfl
@[simp] theorem State.memWrite_irqLine (s : State) (a : Word) (v : Byte) : (s.memWrite a v).irqLine = s.irqLine := rfl
@[simp] theorem State.memWrite_mem (s : State) (a : Word) (v : Byte) : (s.memWrite a v).mem = if s.inDevice a then s.mem else s.mem.write a.toNat v := rfl
@[simp] theorem State.memWrite_deviceWindows (s : State) (a : Word) (v : Byte) : (s.memWrite a v).deviceWindows = s.deviceWindows := rfl
@[simp] theorem State.memWrite_bus (s : State) (a : Word) (v : Byte) : (s.memWrite a v).bus = ⟨.write, a, v⟩ :: s.bus := rfl

@[simp] theorem State.fetch8_a (s : State) : s.fetch8.2.a = s.a := rfl
@[simp] theorem State.fetch8_x (s : State) : s.fetch8.2.x = s.x := rfl
@[simp] theorem State.fetch8_y (s : State) : s.fetch8.2.y = s.y := rfl
@[simp] theorem State.fetch8_sp (s : State) : s.fetch8.2.sp = s.sp := rfl
@[simp] theorem State.fetch8_pc (s : State) : s.fetch8.2.pc = s.pc + 1 := rfl
@[simp] theorem State.fetch8_flags (s : State) : s.fetch8.2.flags = s.flags := rfl
@[simp] theorem State.fetch8_cycles (s : State) : s.fetch8.2.cycles = s.cycles + 1 := rfl
@[simp] theorem State.fetch8_nmiPending (s : State) : s.fetch8.2.nmiPending = s.nmiPending := rfl
@[simp] theorem State.fetch8_irqLine (s : State) : s.fetch8.2.irqLine = s.irqLine := rfl
@[simp] theorem State.fetch8_mem (s : State) : s.fetch8.2.mem = s.mem := rfl
@[simp] theorem State.fetch8_deviceWindows (s : State) : s.fetch8.2.deviceWindows = s.deviceWindows := rfl
@[simp] theorem State.fetch8_bus (s : State) : s.fetch8.2.bus = ⟨.read, s.pc, s.busAnswer s.pc⟩ :: s.bus := rfl

@[simp] theorem State.push_a (s : State) (v : Byte) : (s.push v).a = s.a := rfl
@[simp] theorem State.push_x (s : State) (v : Byte) : (s.push v).x = s.x := rfl
@[simp] theorem State.push_y (s : State) (v : Byte) : (s.push v).y = s.y := rfl
@[simp] theorem State.push_sp (s : State) (v : Byte) : (s.push v).sp = s.sp - 1 := rfl
@[simp] theorem State.push_pc (s : State) (v : Byte) : (s.push v).pc = s.pc := rfl
@[simp] theorem State.push_flags (s : State) (v : Byte) : (s.push v).flags = s.flags := rfl
@[simp] theorem State.push_cycles (s : State) (v : Byte) : (s.push v).cycles = s.cycles + 1 := rfl
@[simp] theorem State.push_nmiPending (s : State) (v : Byte) : (s.push v).nmiPending = s.nmiPending := rfl
@[simp] theorem State.push_irqLine (s : State) (v : Byte) : (s.push v).irqLine = s.irqLine := rfl
@[simp] theorem State.push_mem (s : State) (v : Byte) : (s.push v).mem = if s.inDevice (stackAddr s.sp) then s.mem else s.mem.write (stackAddr s.sp).toNat v := rfl
@[simp] theorem State.push_deviceWindows (s : State) (v : Byte) : (s.push v).deviceWindows = s.deviceWindows := rfl
@[simp] theorem State.push_bus (s : State) (v : Byte) : (s.push v).bus = ⟨.write, stackAddr s.sp, v⟩ :: s.bus := rfl

@[simp] theorem State.pull_a (s : State) : s.pull.2.a = s.a := rfl
@[simp] theorem State.pull_x (s : State) : s.pull.2.x = s.x := rfl
@[simp] theorem State.pull_y (s : State) : s.pull.2.y = s.y := rfl
@[simp] theorem State.pull_sp (s : State) : s.pull.2.sp = s.sp + 1 := rfl
@[simp] theorem State.pull_pc (s : State) : s.pull.2.pc = s.pc := rfl
@[simp] theorem State.pull_flags (s : State) : s.pull.2.flags = s.flags := rfl
@[simp] theorem State.pull_cycles (s : State) : s.pull.2.cycles = s.cycles + 1 := rfl
@[simp] theorem State.pull_nmiPending (s : State) : s.pull.2.nmiPending = s.nmiPending := rfl
@[simp] theorem State.pull_irqLine (s : State) : s.pull.2.irqLine = s.irqLine := rfl
@[simp] theorem State.pull_mem (s : State) : s.pull.2.mem = s.mem := rfl
@[simp] theorem State.pull_deviceWindows (s : State) : s.pull.2.deviceWindows = s.deviceWindows := rfl
@[simp] theorem State.pull_bus (s : State) : s.pull.2.bus = ⟨.read, stackAddr (s.sp + 1), s.busAnswer (stackAddr (s.sp + 1))⟩ :: s.bus := rfl

@[simp] theorem State.poke_a (s : State) (a : Word) (v : Byte) : (s.poke a v).a = s.a := rfl
@[simp] theorem State.poke_x (s : State) (a : Word) (v : Byte) : (s.poke a v).x = s.x := rfl
@[simp] theorem State.poke_y (s : State) (a : Word) (v : Byte) : (s.poke a v).y = s.y := rfl
@[simp] theorem State.poke_sp (s : State) (a : Word) (v : Byte) : (s.poke a v).sp = s.sp := rfl
@[simp] theorem State.poke_pc (s : State) (a : Word) (v : Byte) : (s.poke a v).pc = s.pc := rfl
@[simp] theorem State.poke_flags (s : State) (a : Word) (v : Byte) : (s.poke a v).flags = s.flags := rfl
@[simp] theorem State.poke_cycles (s : State) (a : Word) (v : Byte) : (s.poke a v).cycles = s.cycles := rfl
@[simp] theorem State.poke_nmiPending (s : State) (a : Word) (v : Byte) : (s.poke a v).nmiPending = s.nmiPending := rfl
@[simp] theorem State.poke_irqLine (s : State) (a : Word) (v : Byte) : (s.poke a v).irqLine = s.irqLine := rfl
@[simp] theorem State.poke_mem (s : State) (a : Word) (v : Byte) : (s.poke a v).mem = s.mem.write a.toNat v := rfl
@[simp] theorem State.poke_deviceWindows (s : State) (a : Word) (v : Byte) : (s.poke a v).deviceWindows = s.deviceWindows := rfl
@[simp] theorem State.poke_bus (s : State) (a : Word) (v : Byte) : (s.poke a v).bus = s.bus := rfl

@[simp] theorem State.setFlags_a (s : State) (g : Flags → Flags) : (s.setFlags g).a = s.a := rfl
@[simp] theorem State.setFlags_x (s : State) (g : Flags → Flags) : (s.setFlags g).x = s.x := rfl
@[simp] theorem State.setFlags_y (s : State) (g : Flags → Flags) : (s.setFlags g).y = s.y := rfl
@[simp] theorem State.setFlags_sp (s : State) (g : Flags → Flags) : (s.setFlags g).sp = s.sp := rfl
@[simp] theorem State.setFlags_pc (s : State) (g : Flags → Flags) : (s.setFlags g).pc = s.pc := rfl
@[simp] theorem State.setFlags_flags (s : State) (g : Flags → Flags) : (s.setFlags g).flags = g s.flags := rfl
@[simp] theorem State.setFlags_cycles (s : State) (g : Flags → Flags) : (s.setFlags g).cycles = s.cycles := rfl
@[simp] theorem State.setFlags_nmiPending (s : State) (g : Flags → Flags) : (s.setFlags g).nmiPending = s.nmiPending := rfl
@[simp] theorem State.setFlags_irqLine (s : State) (g : Flags → Flags) : (s.setFlags g).irqLine = s.irqLine := rfl
@[simp] theorem State.setFlags_mem (s : State) (g : Flags → Flags) : (s.setFlags g).mem = s.mem := rfl
@[simp] theorem State.setFlags_deviceWindows (s : State) (g : Flags → Flags) : (s.setFlags g).deviceWindows = s.deviceWindows := rfl
@[simp] theorem State.setFlags_bus (s : State) (g : Flags → Flags) : (s.setFlags g).bus = s.bus := rfl

@[simp] theorem State.loadA_a (s : State) (v : Byte) : (s.loadA v).a = v := rfl
@[simp] theorem State.loadA_x (s : State) (v : Byte) : (s.loadA v).x = s.x := rfl
@[simp] theorem State.loadA_y (s : State) (v : Byte) : (s.loadA v).y = s.y := rfl
@[simp] theorem State.loadA_sp (s : State) (v : Byte) : (s.loadA v).sp = s.sp := rfl
@[simp] theorem State.loadA_pc (s : State) (v : Byte) : (s.loadA v).pc = s.pc := rfl
@[simp] theorem State.loadA_flags (s : State) (v : Byte) : (s.loadA v).flags = s.flags.setNZ v := rfl
@[simp] theorem State.loadA_cycles (s : State) (v : Byte) : (s.loadA v).cycles = s.cycles := rfl
@[simp] theorem State.loadA_nmiPending (s : State) (v : Byte) : (s.loadA v).nmiPending = s.nmiPending := rfl
@[simp] theorem State.loadA_irqLine (s : State) (v : Byte) : (s.loadA v).irqLine = s.irqLine := rfl
@[simp] theorem State.loadA_mem (s : State) (v : Byte) : (s.loadA v).mem = s.mem := rfl
@[simp] theorem State.loadA_deviceWindows (s : State) (v : Byte) : (s.loadA v).deviceWindows = s.deviceWindows := rfl
@[simp] theorem State.loadA_bus (s : State) (v : Byte) : (s.loadA v).bus = s.bus := rfl

@[simp] theorem State.loadX_a (s : State) (v : Byte) : (s.loadX v).a = s.a := rfl
@[simp] theorem State.loadX_x (s : State) (v : Byte) : (s.loadX v).x = v := rfl
@[simp] theorem State.loadX_y (s : State) (v : Byte) : (s.loadX v).y = s.y := rfl
@[simp] theorem State.loadX_sp (s : State) (v : Byte) : (s.loadX v).sp = s.sp := rfl
@[simp] theorem State.loadX_pc (s : State) (v : Byte) : (s.loadX v).pc = s.pc := rfl
@[simp] theorem State.loadX_flags (s : State) (v : Byte) : (s.loadX v).flags = s.flags.setNZ v := rfl
@[simp] theorem State.loadX_cycles (s : State) (v : Byte) : (s.loadX v).cycles = s.cycles := rfl
@[simp] theorem State.loadX_nmiPending (s : State) (v : Byte) : (s.loadX v).nmiPending = s.nmiPending := rfl
@[simp] theorem State.loadX_irqLine (s : State) (v : Byte) : (s.loadX v).irqLine = s.irqLine := rfl
@[simp] theorem State.loadX_mem (s : State) (v : Byte) : (s.loadX v).mem = s.mem := rfl
@[simp] theorem State.loadX_deviceWindows (s : State) (v : Byte) : (s.loadX v).deviceWindows = s.deviceWindows := rfl
@[simp] theorem State.loadX_bus (s : State) (v : Byte) : (s.loadX v).bus = s.bus := rfl

@[simp] theorem State.loadY_a (s : State) (v : Byte) : (s.loadY v).a = s.a := rfl
@[simp] theorem State.loadY_x (s : State) (v : Byte) : (s.loadY v).x = s.x := rfl
@[simp] theorem State.loadY_y (s : State) (v : Byte) : (s.loadY v).y = v := rfl
@[simp] theorem State.loadY_sp (s : State) (v : Byte) : (s.loadY v).sp = s.sp := rfl
@[simp] theorem State.loadY_pc (s : State) (v : Byte) : (s.loadY v).pc = s.pc := rfl
@[simp] theorem State.loadY_flags (s : State) (v : Byte) : (s.loadY v).flags = s.flags.setNZ v := rfl
@[simp] theorem State.loadY_cycles (s : State) (v : Byte) : (s.loadY v).cycles = s.cycles := rfl
@[simp] theorem State.loadY_nmiPending (s : State) (v : Byte) : (s.loadY v).nmiPending = s.nmiPending := rfl
@[simp] theorem State.loadY_irqLine (s : State) (v : Byte) : (s.loadY v).irqLine = s.irqLine := rfl
@[simp] theorem State.loadY_mem (s : State) (v : Byte) : (s.loadY v).mem = s.mem := rfl
@[simp] theorem State.loadY_deviceWindows (s : State) (v : Byte) : (s.loadY v).deviceWindows = s.deviceWindows := rfl
@[simp] theorem State.loadY_bus (s : State) (v : Byte) : (s.loadY v).bus = s.bus := rfl

/-! ### The byte an operation answers -/

@[simp] theorem State.memRead_fst (s : State) (a : Word) : (s.memRead a).1 = s.busAnswer a := rfl
@[simp] theorem State.fetch8_fst (s : State) : s.fetch8.1 = s.busAnswer s.pc := rfl
@[simp] theorem State.pull_fst (s : State) :
    s.pull.1 = State.busAnswer { s with sp := s.sp + 1 } (stackAddr (s.sp + 1)) := rfl

/-! ### Devices and answers look at the platform, the memory and the record only -/

/-- Whether an address is a device's depends on the platform alone. -/
theorem State.inDevice_congr {s t : State} (h : t.deviceWindows = s.deviceWindows) (a : Word) :
    t.inDevice a = s.inDevice a := by
  simp [State.inDevice, h]

/-- What the bus answers depends on platform, record and memory alone. -/
theorem State.busAnswer_congr {s t : State} (hd : t.deviceWindows = s.deviceWindows)
    (hb : t.bus = s.bus) (hm : t.mem = s.mem) (a : Word) : t.busAnswer a = s.busAnswer a := by
  simp [State.busAnswer, State.peek, State.inDevice_congr hd, hb, hm]

/-- Outside every device window the bus answers the byte of plain memory. -/
theorem State.busAnswer_of_ram {s : State} {a : Word} (h : s.inDevice a = false) :
    s.busAnswer a = s.peek a := by
  simp [State.busAnswer, h]

@[simp] theorem State.inDevice_tick (s : State) (n : Nat) (a : Word) :
    (s.tick n).inDevice a = s.inDevice a := rfl
@[simp] theorem State.inDevice_memRead (s : State) (b a : Word) :
    (s.memRead b).2.inDevice a = s.inDevice a := rfl
@[simp] theorem State.inDevice_memWrite (s : State) (b : Word) (v : Byte) (a : Word) :
    (s.memWrite b v).inDevice a = s.inDevice a := rfl
@[simp] theorem State.inDevice_push (s : State) (v : Byte) (a : Word) :
    (s.push v).inDevice a = s.inDevice a := rfl
@[simp] theorem State.inDevice_pull (s : State) (a : Word) :
    s.pull.2.inDevice a = s.inDevice a := rfl
@[simp] theorem State.busAnswer_tick (s : State) (n : Nat) (a : Word) :
    (s.tick n).busAnswer a = s.busAnswer a := rfl
@[simp] theorem State.peek_tick (s : State) (n : Nat) (a : Word) : (s.tick n).peek a = s.peek a := rfl
@[simp] theorem State.peek_memRead (s : State) (b a : Word) : (s.memRead b).2.peek a = s.peek a := rfl
@[simp] theorem State.peek_pull (s : State) (a : Word) : s.pull.2.peek a = s.peek a := rfl

/-- No tick is no change. -/
@[simp] theorem State.tick_zero (s : State) : s.tick 0 = s := rfl

/-- Ticks add up. -/
@[simp] theorem State.tick_tick (s : State) (m n : Nat) : (s.tick m).tick n = s.tick (m + n) := by
  simp [State.tick, Nat.add_assoc]

end Sys2Proof.Machine
end

