-- ==== Sys2Proof/Laws/Memory.lean ====
section
/-!
SUPPORT. The laws of memory: a read after a write, and the canonical form that every write keeps.
-/

namespace Sys2Proof.Machine

/-- A write leaves the byte at every other address (in any list, canonical or not). -/
theorem Memory.read_write_ne (m : Memory) {a b : Nat} (v : Byte) (h : b ≠ a) :
    (Memory.write m a v).read b = Memory.read m b := by
  induction m with
  | nil =>
    by_cases hv : v = Config.unlistedByte <;> simp [Memory.write, Memory.read, hv, h.symm]
  | cons c rest ih =>
    obtain ⟨k, w⟩ := c
    by_cases hlt : a < k
    · by_cases hv : v = Config.unlistedByte <;> simp [Memory.write, Memory.read, hlt, hv, h.symm]
    · by_cases hk : a = k
      · subst hk
        by_cases hv : v = Config.unlistedByte <;> simp [Memory.write, Memory.read, hv, h.symm]
      · simp only [Memory.write, if_neg hlt, if_neg hk, Memory.read, ih]

/-- The parts of the canonical form of a list that is not empty. -/
theorem Memory.wf_cons (k : Nat) (w : Byte) (rest : Memory) :
    Memory.wf ((k, w) :: rest) = true ↔
      k < 65536 ∧ w ≠ Config.unlistedByte ∧ (∀ c, rest.head? = some c → k < c.1) ∧
        Memory.wf rest = true := by
  cases h : rest.head? <;> simp [Memory.wf, h, and_assoc]

/-- In a canonical list every address is above the first. -/
theorem Memory.wf_lt_of_mem {k : Nat} {w : Byte} {rest : Memory}
    (h : Memory.wf ((k, w) :: rest) = true) : ∀ c ∈ rest, k < c.1 := by
  induction rest generalizing k w with
  | nil => simp
  | cons c rest ih =>
    obtain ⟨j, u⟩ := c
    obtain ⟨-, -, hh, hr⟩ := (Memory.wf_cons k w _).mp h
    have hkj : k < j := hh (j, u) rfl
    intro c hc
    rcases List.mem_cons.mp hc with rfl | hc
    · exact hkj
    · exact lt_trans hkj (ih hr c hc)

/-- An address that no pair has reads as an unlisted one. -/
theorem Memory.read_of_not_listed {m : Memory} {a : Nat} (h : ∀ c ∈ m, c.1 ≠ a) :
    m.read a = Config.unlistedByte := by
  induction m with
  | nil => rfl
  | cons c rest ih =>
    obtain ⟨k, w⟩ := c
    have hk : k ≠ a := h (k, w) List.mem_cons_self
    simp only [Memory.read, if_neg hk]
    exact ih fun c hc => h c (List.mem_cons_of_mem _ hc)

/-- In a canonical memory the byte just written is the byte read. -/
theorem Memory.read_write_eq {m : Memory} (hm : m.wf = true) (a : Nat) (v : Byte) :
    (Memory.write m a v).read a = v := by
  induction m with
  | nil => by_cases hv : v = Config.unlistedByte <;> simp [Memory.write, Memory.read, hv]
  | cons c rest ih =>
    obtain ⟨k, w⟩ := c
    have above := Memory.wf_lt_of_mem hm
    obtain ⟨-, -, -, hr⟩ := (Memory.wf_cons k w rest).mp hm
    by_cases hlt : a < k
    · by_cases hv : v = Config.unlistedByte
      · simp only [Memory.write, if_pos hlt, if_pos hv]
        rw [hv]
        refine Memory.read_of_not_listed fun c hc => ?_
        rcases List.mem_cons.mp hc with rfl | hc
        · exact Nat.ne_of_gt hlt
        · exact Nat.ne_of_gt (lt_trans hlt (above c hc))
      · simp [Memory.write, Memory.read, hlt, hv]
    · by_cases hk : a = k
      · subst hk
        by_cases hv : v = Config.unlistedByte
        · simp only [Memory.write, lt_irrefl, if_false, if_true, if_pos hv]
          rw [hv]
          exact Memory.read_of_not_listed fun c hc => Nat.ne_of_gt (above c hc)
        · simp [Memory.write, Memory.read, hv]
      · simp only [Memory.write, if_neg hlt, if_neg hk, Memory.read, if_neg (Ne.symm hk)]
        exact ih hr

/-- Where the first address of a written list can be. -/
theorem Memory.head_write {m : Memory} {a : Nat} {v : Byte} {c : Host.Cell}
    (h : (Memory.write m a v).head? = some c) :
    c.1 = a ∨ ∃ d ∈ m, d.1 = c.1 := by
  cases m with
  | nil =>
    by_cases hv : v = Config.unlistedByte <;> simp [Memory.write, hv] at h
    exact .inl (by rw [← h])
  | cons d rest =>
    obtain ⟨k, w⟩ := d
    simp only [Memory.write] at h
    split at h
    · split at h
      · obtain rfl : (k, w) = c := by simpa using h
        exact .inr ⟨(k, w), List.mem_cons_self, rfl⟩
      · obtain rfl : (a, v) = c := by simpa using h
        exact .inl rfl
    · split at h
      · split at h
        · exact .inr ⟨c, List.mem_cons_of_mem _ (List.mem_of_mem_head? h), rfl⟩
        · obtain rfl : (a, v) = c := by simpa using h
          exact .inl rfl
      · obtain rfl : (k, w) = c := by simpa using h
        exact .inr ⟨(k, w), List.mem_cons_self, rfl⟩

/-- A write at a 16-bit address keeps the canonical form. -/
theorem Memory.write_wf {m : Memory} (hm : m.wf = true) {a : Nat} (ha : a < 65536) (v : Byte) :
    (Memory.write m a v).wf = true := by
  induction m with
  | nil =>
    by_cases hv : v = Config.unlistedByte
    · simp [Memory.write, Memory.wf, hv]
    · simp [Memory.write, Memory.wf, hv, ha]
  | cons c rest ih =>
    obtain ⟨k, w⟩ := c
    have above := Memory.wf_lt_of_mem hm
    obtain ⟨hk, hw, hh, hr⟩ := (Memory.wf_cons k w rest).mp hm
    simp only [Memory.write]
    split
    · rename_i hlt
      split
      · exact hm
      · rename_i hv
        exact (Memory.wf_cons a v _).mpr ⟨ha, hv, by simpa using hlt, hm⟩
    · rename_i hlt
      split
      · rename_i hak
        split
        · exact hr
        · rename_i hv
          exact (Memory.wf_cons a v rest).mpr ⟨ha, hv, by rw [hak]; exact hh, hr⟩
      · rename_i hak
        refine (Memory.wf_cons k w _).mpr ⟨hk, hw, fun c hc => ?_, ih hr⟩
        rcases Memory.head_write hc with h | ⟨d, hd, h⟩
        · rw [h]; omega
        · rw [← h]; exact above d hd

/-- The memory after a bus write keeps the canonical form. -/
theorem State.memWrite_wf {s : State} (h : s.mem.wf = true) (a : Word) (v : Byte) :
    (s.memWrite a v).mem.wf = true := by
  simp only [State.memWrite_mem]
  split
  · exact h
  · exact Memory.write_wf h a.isLt v

/-- The memory after a push keeps the canonical form. -/
theorem State.push_wf {s : State} (h : s.mem.wf = true) (v : Byte) : (s.push v).mem.wf = true :=
  State.memWrite_wf h (stackAddr s.sp) v

/-- The memory after the host's poke keeps the canonical form. -/
theorem State.poke_wf {s : State} (h : s.mem.wf = true) (a : Word) (v : Byte) :
    (s.poke a v).mem.wf = true :=
  Memory.write_wf h a.isLt v

/-- Placing a table word keeps the canonical form. -/
theorem State.withFetchWord_wf {s : State} (h : s.mem.wf = true) (nbits w : Nat) :
    (s.withFetchWord nbits w).mem.wf = true := by
  simp only [State.withFetchWord, State.poke_pc]
  exact State.poke_wf (State.poke_wf (State.poke_wf h _ _) _ _) _ _

/-- The memory right after reset is in canonical form. -/
theorem State.reset_wf : State.reset.mem.wf = true := rfl

/-- A bus write stores its byte and leaves every other byte. -/
theorem State.memWrite_stored (s : State) (a : Word) (v : Byte) :
    (∀ b : Nat, b ≠ a.toNat → (s.memWrite a v).mem.read b = s.mem.read b) ∧
    (s.mem.wf = true → s.inDevice a = false → (s.memWrite a v).mem.read a.toNat = v) ∧
    (s.inDevice a = true → (s.memWrite a v).mem = s.mem) := by
  simp only [State.memWrite_mem]
  refine ⟨fun b hb => ?_, fun hw hd => ?_, fun hd => by simp [hd]⟩
  · split
    · rfl
    · exact Memory.read_write_ne _ _ hb
  · simpa [hd] using Memory.read_write_eq hw a.toNat v

end Sys2Proof.Machine
end

