-- ==== Sys2Proof/Laws/Bus.lean ====
section
/-!
SUPPORT. `Extends`: every shared operation changes memory and platform by bus transactions alone. The
relation is reflexive and transitive, each primitive is in it, and so is each shared operation.
-/

namespace Sys2Proof.Machine

theorem replay_append {s t : State} {evs : List BusEvent} (hd : t.deviceWindows = s.deviceWindows)
    (hm : t.mem = replay s evs) (more : List BusEvent) :
    replay t more = replay s (more ++ evs) := by
  induction more with
  | nil => exact hm
  | cons e older ih => simp only [replay, List.cons_append, ih, State.inDevice_congr hd]

theorem answered_append {s t : State} {evs : List BusEvent} (hd : t.deviceWindows = s.deviceWindows)
    (hm : t.mem = replay s evs) (hb : t.bus = evs ++ s.bus) (hs : Answered s evs)
    (more : List BusEvent) (ht : Answered t more) : Answered s (more ++ evs) := by
  induction more with
  | nil => exact hs
  | cons e older ih =>
    obtain ⟨h, ht⟩ := ht
    refine ⟨fun hk => ?_, ih ht⟩
    rw [h hk, State.inDevice_congr hd, hb, replay_append hd hm]
    exact (congrArg (fun l => if s.inDevice e.addr = true then Config.deviceAnswer l e.addr else _)
      (List.append_assoc older evs s.bus)).symm

/-- A change of registers, flags or the NMI latch, with or without ticks. -/
theorem Extends.of_same {s t : State} (hi : t.irqLine = s.irqLine)
    (hd : t.deviceWindows = s.deviceWindows) (hb : t.bus = s.bus) (hm : t.mem = s.mem)
    (hc : s.cycles ≤ t.cycles) : Extends s t :=
  ⟨hi, hd, [], by simpa using hb, hm, trivial, by simpa using hc⟩

theorem Extends.refl (s : State) : Extends s s := .of_same rfl rfl rfl rfl le_rfl

theorem Extends.trans {s t u : State} (h : Extends s t) (k : Extends t u) : Extends s u := by
  obtain ⟨hi, hd, evs, hb, hm, ha, hc⟩ := h
  obtain ⟨ki, kd, more, kb, km, ka, kc⟩ := k
  refine ⟨ki.trans hi, kd.trans hd, more ++ evs, by rw [kb, hb, List.append_assoc], ?_, ?_, ?_⟩
  · rw [km, replay_append hd hm]
  · exact answered_append hd hm hb ha more ka
  · rw [List.length_append]; omega

theorem Extends.tick (s : State) (n : Nat) : Extends s (s.tick n) :=
  .of_same rfl rfl rfl rfl (Nat.le_add_right _ _)

theorem Extends.memRead (s : State) (a : Word) : Extends s (s.memRead a).2 :=
  ⟨rfl, rfl, [⟨.read, a, s.busAnswer a⟩], rfl, rfl, ⟨fun _ => rfl, trivial⟩, le_rfl⟩

theorem Extends.memWrite (s : State) (a : Word) (v : Byte) : Extends s (s.memWrite a v) := by
  refine ⟨rfl, rfl, [⟨.write, a, v⟩], rfl, ?_, ⟨fun h => by simp at h, trivial⟩, le_rfl⟩
  by_cases h : s.inDevice a <;> simp [replay, h]

theorem Extends.fetch8 (s : State) : Extends s s.fetch8.2 :=
  (Extends.memRead s s.pc).trans (.of_same rfl rfl rfl rfl le_rfl)

theorem Extends.fetch16 (s : State) : Extends s s.fetch16.2 :=
  (Extends.fetch8 s).trans (Extends.fetch8 _)

theorem Extends.fetchInstr (s : State) : Extends s s.fetchInstr.2 := by
  simp only [State.fetchInstr]
  split
  · exact Extends.fetch8 s
  · exact Extends.fetch8 s
  · exact (Extends.fetch8 s).trans (Extends.fetch8 _)
  · exact (Extends.fetch8 s).trans (Extends.fetch16 _)

theorem Extends.push (s : State) (v : Byte) : Extends s (s.push v) :=
  (Extends.memWrite s _ v).trans (.of_same rfl rfl rfl rfl le_rfl)

theorem Extends.pull (s : State) : Extends s s.pull.2 :=
  Extends.trans (t := { s with sp := s.sp + 1 }) (.of_same rfl rfl rfl rfl le_rfl)
    (Extends.memRead _ _)

theorem Extends.readVector (s : State) (vector : Word) : Extends s (s.readVector vector).2 :=
  (Extends.memRead s _).trans (Extends.memRead _ _)

theorem Extends.setFlags (s : State) (g : Flags → Flags) : Extends s (s.setFlags g) :=
  .of_same rfl rfl rfl rfl le_rfl

theorem Extends.setPc (s : State) (pc : Word) : Extends s { s with pc := pc } :=
  .of_same rfl rfl rfl rfl le_rfl

/-- Everything entering a handler does to memory, platform and record. -/
theorem Extends.takeException (vector : Word) (b : Bool) (s : State) :
    Extends s (takeException vector b s) := by
  have pushes := ((Extends.push s (highByte s.pc)).trans (Extends.push _ (lowByte s.pc))).trans
    (Extends.push _ (s.flags.packP b))
  have masked := pushes.trans (Extends.setFlags _ fun f => { f with i := true })
  exact (masked.trans (Extends.readVector _ vector)).trans (Extends.setPc _ _)

theorem Extends.interruptEntry (vector : Word) (b : Bool) (s : State) :
    Extends s (interruptEntry vector b s) :=
  (Extends.tick s 2).trans (Extends.takeException vector b _)

/-- Everything returning from a handler does to memory, platform and record. -/
theorem Extends.returnFromException (s : State) : Extends s (returnFromException s) := by
  have status := (Extends.pull s).trans (Extends.setFlags _ fun _ => Flags.unpackP s.pull.1)
  exact ((status.trans (Extends.pull _)).trans (Extends.pull _)).trans (Extends.setPc _ _)

theorem Extends.crossingTick (access : Access) (base : Word) (index : Byte) (s : State) :
    Extends s (crossingTick access base index s) := by
  cases access
  · simp only [Machine.crossingTick]
    split
    · exact .tick s 1
    · exact .refl s
  · exact .tick s 1
  · exact .tick s 1

theorem Extends.zeroPagePointer (p : Byte) (s : State) : Extends s (zeroPagePointer p s).2 :=
  (Extends.memRead s _).trans (Extends.memRead _ _)

theorem Extends.effectiveAddress (access : Access) (m : MemOperand) (s : State) :
    Extends s (effectiveAddress access m s).2 := by
  cases m with
  | zp z => exact .refl s
  | zpx z => exact .tick s 1
  | zpy z => exact .tick s 1
  | abs addr => exact .refl s
  | absx addr => exact .crossingTick ..
  | absy addr => exact .crossingTick ..
  | indx z => exact (Extends.tick s 1).trans (.zeroPagePointer ..)
  | indy z => exact (Extends.zeroPagePointer z s).trans (.crossingTick ..)

theorem Extends.targetInd (ptr : Word) (s : State) : Extends s (targetInd ptr s).2 :=
  (Extends.memRead s _).trans (Extends.memRead _ _)

theorem Extends.loadOperand (m : MemOperand) (s : State) : Extends s (loadOperand m s).2 :=
  (Extends.effectiveAddress .read m s).trans (Extends.memRead _ _)

/-- The read shape, for an Operation that changes registers and flags only. -/
theorem Extends.readMem (m : MemOperand) {op : Byte → State → State}
    (hop : ∀ v s, Extends s (op v s)) (s : State) : Extends s (readMem m op s) :=
  (Extends.loadOperand m s).trans (hop _ _)

theorem Extends.rmwAcc (f : Byte → Flags → Byte × Flags) (s : State) : Extends s (rmwAcc f s) :=
  (Extends.tick s 1).trans (.of_same rfl rfl rfl rfl le_rfl)

theorem Extends.rmwMem (m : MemOperand) (f : Byte → Flags → Byte × Flags) (s : State) :
    Extends s (rmwMem m f s) := by
  have before := ((Extends.effectiveAddress .rmw m s).trans
    (Extends.memRead _ (Machine.effectiveAddress .rmw m s).1)).trans (Extends.tick _ 1)
  exact (before.trans (Extends.setFlags _ fun _ => _)).trans (Extends.memWrite _ _ _)

theorem Extends.writeMem (m : MemOperand) (reg : State → Byte) (s : State) :
    Extends s (writeMem m reg s) :=
  (Extends.effectiveAddress .write m s).trans (Extends.memWrite _ _ _)

theorem Extends.impliedShape {op : State → State} (hop : ∀ s, Extends s (op s)) (s : State) :
    Extends s (impliedShape op s) :=
  (Extends.tick s 1).trans (hop _)

theorem Extends.callSubroutine (target : Word) (s : State) :
    Extends s (callSubroutine target s) := by
  have pushes := ((Extends.tick s 1).trans (Extends.push _ (highByte (s.pc - 1)))).trans
    (Extends.push _ (lowByte (s.pc - 1)))
  exact pushes.trans (Extends.setPc _ target)

theorem Extends.returnFromSubroutine (s : State) : Extends s (returnFromSubroutine s) := by
  have pulls := ((Extends.tick s 2).trans (Extends.pull _)).trans (Extends.pull _)
  exact (pulls.trans (Extends.tick _ 1)).trans (Extends.setPc _ _)

theorem Extends.softwareInterrupt (s : State) : Extends s (softwareInterrupt s) :=
  ((Extends.tick s 1).trans (Extends.setPc _ (s.pc + 1))).trans (Extends.takeException _ _ _)

theorem Extends.branchShape (cond : Bool) (off : Byte) (s : State) :
    Extends s (branchShape cond off s) := by
  cases cond
  · exact .refl s
  · simp only [Machine.branchShape, if_true]
    refine (Extends.tick s 1).trans ?_
    split
    · exact (Extends.tick _ 1).trans (.of_same rfl rfl rfl rfl le_rfl)
    · exact .of_same rfl rfl rfl rfl le_rfl

theorem Extends.resetOp (s : State) : Extends s s.resetOp := by
  have masked : Extends s { s.tick 5 with flags := { s.flags with i := true }, nmiPending := false } :=
    (Extends.tick s 5).trans (.of_same rfl rfl rfl rfl le_rfl)
  exact (masked.trans (Extends.readVector _ resetVector)).trans (Extends.setPc _ _)

/-- Replaying transactions keeps the canonical form of memory. -/
theorem replay_wf {s : State} (h : s.mem.wf = true) (evs : List BusEvent) :
    (replay s evs).wf = true := by
  induction evs with
  | nil => exact h
  | cons e older ih =>
    simp only [replay]
    split
    · exact Memory.write_wf ih e.addr.isLt _
    · exact ih

/-- Whatever extends a state by bus transactions and ticks keeps its invariant. -/
theorem Extends.inv {s t : State} (h : Extends s t) (hs : s.Inv) : t.Inv := by
  obtain ⟨-, -, evs, hb, hm, -, hc⟩ := h
  exact ⟨hm ▸ replay_wf hs.1 evs, by have := hs.2; rw [hb, List.length_append]; omega⟩

end Sys2Proof.Machine
end

