-- ==== Sys2Proof/Laws/Bytes.lean ====
section
/-!
SUPPORT. The two bytes of a 16-bit value, and what decoding does with the bytes of one entry.
-/

namespace Sys2Proof

@[simp] theorem lowByte_wordOf (hi lo : Byte) : lowByte (wordOf hi lo) = lo := by
  apply BitVec.eq_of_getLsbD_eq
  intro i h
  simp only [lowByte, wordOf, BitVec.getLsbD_extractLsb', BitVec.getLsbD_append]
  simp [h]

@[simp] theorem highByte_wordOf (hi lo : Byte) : highByte (wordOf hi lo) = hi := by
  apply BitVec.eq_of_getLsbD_eq
  intro i h
  simp only [highByte, wordOf, BitVec.getLsbD_extractLsb', BitVec.getLsbD_append]
  simp [h]

@[simp] theorem wordOf_high_low (a : Word) : wordOf (highByte a) (lowByte a) = a := by
  simp only [highByte, lowByte, wordOf]
  apply BitVec.eq_of_getLsbD_eq
  intro i hi
  simp only [BitVec.getLsbD_append, BitVec.getLsbD_extractLsb']
  by_cases h : i < 8
  · simp [h]
  · simp [h, show i - 8 < 8 by omega, show 8 + (i - 8) = i by omega]

/-- The value of `hi:lo`. -/
theorem toNat_wordOf (hi lo : Byte) : (wordOf hi lo).toNat = hi.toNat * 256 + lo.toNat := by
  have h : (hi ++ lo : BitVec 16).toNat = hi.toNat <<< 8 ||| lo.toNat := BitVec.toNat_append ..
  rw [wordOf, h, ← Nat.shiftLeft_add_eq_or_of_lt lo.isLt, Nat.shiftLeft_eq]

/-- Decoding an opcode byte without an entry takes that byte alone. -/
theorem decode_illegal {op : Byte} (h : dispatchEntry op = none) (rest : List Byte) :
    decode (op :: rest) = .ok (.illegal op, rest) := by
  simp [decode, h]

/-- Decoding an opcode byte of format F1 takes that byte alone. -/
theorem decode_none {op : Byte} {i : Instr}
    (h : (dispatchEntry op).map DispatchEntry.build = some (.none i)) (rest : List Byte) :
    decode (op :: rest) = .ok (i, rest) := by
  simp [decode, h]

/-- Decoding an opcode byte of format F2 takes one more byte. -/
theorem decode_byte {op : Byte} {make : Byte → Instr}
    (h : (dispatchEntry op).map DispatchEntry.build = some (.byte make)) (d : Byte) (rest : List Byte) :
    decode (op :: d :: rest) = .ok (make d, rest) := by
  simp [decode, h]

/-- Decoding an opcode byte of format F3 takes two more bytes, low byte first. -/
theorem decode_word {op : Byte} {make : Word → Instr}
    (h : (dispatchEntry op).map DispatchEntry.build = some (.word make)) (lo hi : Byte)
    (rest : List Byte) : decode (op :: lo :: hi :: rest) = .ok (make (wordOf hi lo), rest) := by
  simp [decode, h]

end Sys2Proof
end

