-- ==== Sys2Proof/Laws/Operands.lean ====
section
/-!
SUPPORT. What the resolver and the shape templates do, each said once: the resolver touches ticks and
the bus record only, and each template is one equation over the effective address and the operand.
-/

namespace Sys2Proof.Machine

/-- The ticks a mode charges beyond the fetch of its operand bytes, without the page-crossing tick. -/
def modeTicks : MemOperand → Nat
  | .zp _ | .abs _ | .absx _ | .absy _ => 0
  | .zpx _ | .zpy _ => 1
  | .indx _ => 3
  | .indy _ => 2

/-- The tick that a write or read-modify-write always charges in the indexed modes (R87). -/
def fixedTick : MemOperand → Nat
  | .absx _ | .absy _ | .indy _ => 1
  | .zp _ | .zpx _ | .zpy _ | .abs _ | .indx _ => 0

theorem crossingTick_eq (access : Access) (base : Word) (index : Byte) (s : State) :
    crossingTick access base index s =
      s.tick (if access = .read ∧ crossed base index = false then 0 else 1) := by
  cases access
  · by_cases h : crossed base index <;> simp [crossingTick, h]
  · simp [crossingTick]
  · simp [crossingTick]

/-- The resolver changes no register and no memory: only ticks and the bus record (R81). -/
theorem effectiveAddress_state (access : Access) (m : MemOperand) (s : State) :
    (effectiveAddress access m s).2 =
      { s with
        cycles := (effectiveAddress access m s).2.cycles
        bus := (effectiveAddress access m s).2.bus } := by
  cases m <;> simp only [effectiveAddress, crossingTick_eq] <;> rfl

/-- The ticks of a read in each mode. -/
theorem effectiveAddress_read_cycles (m : MemOperand) (s : State) :
    (effectiveAddress .read m s).2.cycles = s.cycles + modeTicks m + pageTick m s := by
  cases m <;> simp only [effectiveAddress, crossingTick_eq, pageTick, modeTicks] <;>
    first
      | rfl
      | (split <;> simp_all [zeroPagePointer, State.tick, State.memRead])

/-- The ticks of a write in each mode. -/
theorem effectiveAddress_write_cycles (m : MemOperand) (s : State) :
    (effectiveAddress .write m s).2.cycles = s.cycles + modeTicks m + fixedTick m := by
  cases m <;> simp [effectiveAddress, crossingTick, modeTicks, fixedTick, zeroPagePointer, State.tick,
    State.memRead, Nat.add_assoc]

/-- The ticks of a read-modify-write in each mode, before its data read. -/
theorem effectiveAddress_rmw_cycles (m : MemOperand) (s : State) :
    (effectiveAddress .rmw m s).2.cycles = s.cycles + modeTicks m + fixedTick m := by
  cases m <;> simp [effectiveAddress, crossingTick, modeTicks, fixedTick, zeroPagePointer, State.tick,
    State.memRead, Nat.add_assoc]

/-- The state after the operand of a read-shape instruction was read. -/
def afterOperand (m : MemOperand) (s : State) : State :=
  { s with
    cycles := s.cycles + (modeTicks m + 1) + pageTick m s
    bus := { kind := .read, addr := (effectiveAddress .read m s).1, data := operandOf m s } ::
      (effectiveAddress .read m s).2.bus }

theorem loadOperand_eq (m : MemOperand) (s : State) :
    loadOperand m s = (operandOf m s, afterOperand m s) := by
  refine Prod.ext rfl ?_
  have hs := effectiveAddress_state .read m s
  have hc := effectiveAddress_read_cycles m s
  simp only [loadOperand, afterOperand, operandOf, State.memRead]
  rw [hs]
  simp only [hc]
  congr 1
  omega

/-- The read shape in a memory mode: the Operation, on the operand and the state after it was read. -/
theorem readMem_eq (m : MemOperand) (op : Byte → State → State) (s : State) :
    readMem m op s = op (operandOf m s) (afterOperand m s) := by
  rw [readMem, loadOperand_eq]

/-- The write shape: one bus write at the effective address. -/
theorem writeMem_eq (m : MemOperand) (reg : State → Byte)
    (hreg : ∀ s c b, reg { s with cycles := c, bus := b } = reg s) (s : State) :
    writeMem m reg s =
      { s with
        cycles := s.cycles + (modeTicks m + fixedTick m + 1)
        mem := (s.memWrite (effectiveAddress .write m s).1 (reg s)).mem
        bus := { kind := .write, addr := (effectiveAddress .write m s).1, data := reg s } ::
          (effectiveAddress .write m s).2.bus } := by
  have hs := effectiveAddress_state .write m s
  have hc := effectiveAddress_write_cycles m s
  have hr : reg (effectiveAddress .write m s).2 = reg s := by rw [hs]; exact hreg ..
  simp only [writeMem, hr, State.memWrite]
  rw [hs]
  simp only [hc, State.inDevice]
  congr 1
  omega

/-- The read-modify-write shape in a memory mode. -/
theorem rmwMem_eq (m : MemOperand) (f : Byte → Flags → Byte × Flags) (s : State) :
    rmwMem m f s =
      let ea := (effectiveAddress .rmw m s).1
      let v := ((effectiveAddress .rmw m s).2.memRead ea).1
      let r := (f v s.flags).1
      { s with
        flags := (f v s.flags).2.setNZ r
        cycles := s.cycles + (modeTicks m + fixedTick m + 3)
        mem := (s.memWrite ea r).mem
        bus := { kind := .write, addr := ea, data := r } :: { kind := .read, addr := ea, data := v } ::
          (effectiveAddress .rmw m s).2.bus } := by
  have hs := effectiveAddress_state .rmw m s
  have hc := effectiveAddress_rmw_cycles m s
  have hf : (effectiveAddress .rmw m s).2.flags = s.flags := by rw [hs]
  simp only [rmwMem, State.memRead, State.tick, State.memWrite, hf]
  rw [hs]
  simp only [hc, State.inDevice]
  congr 1
  omega

/-- `nz`, the claims' spelling of N and Z, is what SetNZ does. -/
theorem setNZ_eq_nz (v : Byte) (f : Flags) : Flags.setNZ v f = nz v f := by
  simp only [Flags.setNZ, nz, BitVec.msb_eq_getLsbD_last]
  congr 1

/-- A branch changes PC and ticks, and nothing else (47_jump_branch.md R181). -/
theorem branchShape_eq (cond : Bool) (off : Byte) (s : State) :
    branchShape cond off s =
      { s with
        pc := if cond then s.pc + off.signExtend 16 else s.pc
        cycles := s.cycles + branchTicks cond off s } := by
  cases cond
  · rfl
  · simp only [branchShape, targetRel, State.tick, if_true, branchTicks]
    by_cases h : highByte (s.pc + off.signExtend 16) = highByte s.pc <;> simp [h]

/-- ADC changes A and N, V, Z, C, in both modes (42_adc_sbc.md R115). -/
theorem opAdc_state (v : Byte) (s : State) :
    opAdc v s =
      { s with
        a := (opAdc v s).a
        flags := { s.flags with
          n := (opAdc v s).flags.n
          v := (opAdc v s).flags.v
          z := (opAdc v s).flags.z
          c := (opAdc v s).flags.c } } := by
  simp only [opAdc]
  split <;> rfl

/-- SBC changes A and N, V, Z, C, in both modes (42_adc_sbc.md R116). -/
theorem opSbc_state (v : Byte) (s : State) :
    opSbc v s =
      { s with
        a := (opSbc v s).a
        flags := { s.flags with
          n := (opSbc v s).flags.n
          v := (opSbc v s).flags.v
          z := (opSbc v s).flags.z
          c := (opSbc v s).flags.c } } := rfl

end Sys2Proof.Machine
end

