-- ==== Sys2Proof/Laws/PerInstr.lean ====
section
/-!
SUPPORT. Statements made per instruction, one lemma for each constructor of `Instr`.
-/

namespace Sys2Proof.Laws

/-- The bytes listed as illegal have no dispatch entry (30_encoding.md R67). -/
theorem illegal_has_no_entry : ∀ b ∈ illegalOpcodes, dispatchEntry b = none := by decide

end Sys2Proof.Laws

namespace Sys2Proof.Laws.EncodingShape

/-- A well-formed instruction is encoded as one opcode byte and as many operand bytes as its mode takes
(30_encoding.md R60); an illegal byte stands alone (60_exceptions.md R211). -/
def Statement (i : Instr) : Prop :=
  i.wf = true → i.length = 1 + match i.mode with
    | some m => m.operandBytes
    | none => 0

/-- The statement for an instruction with a dispatch entry, from its opcode byte and its mode. -/
theorem of_entry {i : Instr} (op : Byte) (m : Mode) (opcode : i.opcode = op)
    (mode : (dispatchEntry op).map DispatchEntry.mode = some m)
    (length : i.length = 1 + m.operandBytes) : Statement i := by
  intro _
  have e : i.mode = some m := by rw [Instr.mode, Instr.entry, opcode, mode]
  rw [e]
  exact length

theorem ldaImm (d8 : Byte) : Statement (.ldaImm d8) := of_entry 0xA9 .imm rfl rfl rfl
theorem ldaZp (z : Byte) : Statement (.ldaZp z) := of_entry 0xA5 .zp rfl rfl rfl
theorem ldaZpx (z : Byte) : Statement (.ldaZpx z) := of_entry 0xB5 .zpx rfl rfl rfl
theorem ldaAbs (addr : Word) : Statement (.ldaAbs addr) := of_entry 0xAD .abs rfl rfl rfl
theorem ldaAbsx (addr : Word) : Statement (.ldaAbsx addr) := of_entry 0xBD .absx rfl rfl rfl
theorem ldaAbsy (addr : Word) : Statement (.ldaAbsy addr) := of_entry 0xB9 .absy rfl rfl rfl
theorem ldaIndx (z : Byte) : Statement (.ldaIndx z) := of_entry 0xA1 .indx rfl rfl rfl
theorem ldaIndy (z : Byte) : Statement (.ldaIndy z) := of_entry 0xB1 .indy rfl rfl rfl
theorem ldxImm (d8 : Byte) : Statement (.ldxImm d8) := of_entry 0xA2 .imm rfl rfl rfl
theorem ldxZp (z : Byte) : Statement (.ldxZp z) := of_entry 0xA6 .zp rfl rfl rfl
theorem ldxZpy (z : Byte) : Statement (.ldxZpy z) := of_entry 0xB6 .zpy rfl rfl rfl
theorem ldxAbs (addr : Word) : Statement (.ldxAbs addr) := of_entry 0xAE .abs rfl rfl rfl
theorem ldxAbsy (addr : Word) : Statement (.ldxAbsy addr) := of_entry 0xBE .absy rfl rfl rfl
theorem ldyImm (d8 : Byte) : Statement (.ldyImm d8) := of_entry 0xA0 .imm rfl rfl rfl
theorem ldyZp (z : Byte) : Statement (.ldyZp z) := of_entry 0xA4 .zp rfl rfl rfl
theorem ldyZpx (z : Byte) : Statement (.ldyZpx z) := of_entry 0xB4 .zpx rfl rfl rfl
theorem ldyAbs (addr : Word) : Statement (.ldyAbs addr) := of_entry 0xAC .abs rfl rfl rfl
theorem ldyAbsx (addr : Word) : Statement (.ldyAbsx addr) := of_entry 0xBC .absx rfl rfl rfl
theorem oraImm (d8 : Byte) : Statement (.oraImm d8) := of_entry 0x09 .imm rfl rfl rfl
theorem oraZp (z : Byte) : Statement (.oraZp z) := of_entry 0x05 .zp rfl rfl rfl
theorem oraZpx (z : Byte) : Statement (.oraZpx z) := of_entry 0x15 .zpx rfl rfl rfl
theorem oraAbs (addr : Word) : Statement (.oraAbs addr) := of_entry 0x0D .abs rfl rfl rfl
theorem oraAbsx (addr : Word) : Statement (.oraAbsx addr) := of_entry 0x1D .absx rfl rfl rfl
theorem oraAbsy (addr : Word) : Statement (.oraAbsy addr) := of_entry 0x19 .absy rfl rfl rfl
theorem oraIndx (z : Byte) : Statement (.oraIndx z) := of_entry 0x01 .indx rfl rfl rfl
theorem oraIndy (z : Byte) : Statement (.oraIndy z) := of_entry 0x11 .indy rfl rfl rfl
theorem andImm (d8 : Byte) : Statement (.andImm d8) := of_entry 0x29 .imm rfl rfl rfl
theorem andZp (z : Byte) : Statement (.andZp z) := of_entry 0x25 .zp rfl rfl rfl
theorem andZpx (z : Byte) : Statement (.andZpx z) := of_entry 0x35 .zpx rfl rfl rfl
theorem andAbs (addr : Word) : Statement (.andAbs addr) := of_entry 0x2D .abs rfl rfl rfl
theorem andAbsx (addr : Word) : Statement (.andAbsx addr) := of_entry 0x3D .absx rfl rfl rfl
theorem andAbsy (addr : Word) : Statement (.andAbsy addr) := of_entry 0x39 .absy rfl rfl rfl
theorem andIndx (z : Byte) : Statement (.andIndx z) := of_entry 0x21 .indx rfl rfl rfl
theorem andIndy (z : Byte) : Statement (.andIndy z) := of_entry 0x31 .indy rfl rfl rfl
theorem eorImm (d8 : Byte) : Statement (.eorImm d8) := of_entry 0x49 .imm rfl rfl rfl
theorem eorZp (z : Byte) : Statement (.eorZp z) := of_entry 0x45 .zp rfl rfl rfl
theorem eorZpx (z : Byte) : Statement (.eorZpx z) := of_entry 0x55 .zpx rfl rfl rfl
theorem eorAbs (addr : Word) : Statement (.eorAbs addr) := of_entry 0x4D .abs rfl rfl rfl
theorem eorAbsx (addr : Word) : Statement (.eorAbsx addr) := of_entry 0x5D .absx rfl rfl rfl
theorem eorAbsy (addr : Word) : Statement (.eorAbsy addr) := of_entry 0x59 .absy rfl rfl rfl
theorem eorIndx (z : Byte) : Statement (.eorIndx z) := of_entry 0x41 .indx rfl rfl rfl
theorem eorIndy (z : Byte) : Statement (.eorIndy z) := of_entry 0x51 .indy rfl rfl rfl
theorem adcImm (d8 : Byte) : Statement (.adcImm d8) := of_entry 0x69 .imm rfl rfl rfl
theorem adcZp (z : Byte) : Statement (.adcZp z) := of_entry 0x65 .zp rfl rfl rfl
theorem adcZpx (z : Byte) : Statement (.adcZpx z) := of_entry 0x75 .zpx rfl rfl rfl
theorem adcAbs (addr : Word) : Statement (.adcAbs addr) := of_entry 0x6D .abs rfl rfl rfl
theorem adcAbsx (addr : Word) : Statement (.adcAbsx addr) := of_entry 0x7D .absx rfl rfl rfl
theorem adcAbsy (addr : Word) : Statement (.adcAbsy addr) := of_entry 0x79 .absy rfl rfl rfl
theorem adcIndx (z : Byte) : Statement (.adcIndx z) := of_entry 0x61 .indx rfl rfl rfl
theorem adcIndy (z : Byte) : Statement (.adcIndy z) := of_entry 0x71 .indy rfl rfl rfl
theorem sbcImm (d8 : Byte) : Statement (.sbcImm d8) := of_entry 0xE9 .imm rfl rfl rfl
theorem sbcZp (z : Byte) : Statement (.sbcZp z) := of_entry 0xE5 .zp rfl rfl rfl
theorem sbcZpx (z : Byte) : Statement (.sbcZpx z) := of_entry 0xF5 .zpx rfl rfl rfl
theorem sbcAbs (addr : Word) : Statement (.sbcAbs addr) := of_entry 0xED .abs rfl rfl rfl
theorem sbcAbsx (addr : Word) : Statement (.sbcAbsx addr) := of_entry 0xFD .absx rfl rfl rfl
theorem sbcAbsy (addr : Word) : Statement (.sbcAbsy addr) := of_entry 0xF9 .absy rfl rfl rfl
theorem sbcIndx (z : Byte) : Statement (.sbcIndx z) := of_entry 0xE1 .indx rfl rfl rfl
theorem sbcIndy (z : Byte) : Statement (.sbcIndy z) := of_entry 0xF1 .indy rfl rfl rfl
theorem cmpImm (d8 : Byte) : Statement (.cmpImm d8) := of_entry 0xC9 .imm rfl rfl rfl
theorem cmpZp (z : Byte) : Statement (.cmpZp z) := of_entry 0xC5 .zp rfl rfl rfl
theorem cmpZpx (z : Byte) : Statement (.cmpZpx z) := of_entry 0xD5 .zpx rfl rfl rfl
theorem cmpAbs (addr : Word) : Statement (.cmpAbs addr) := of_entry 0xCD .abs rfl rfl rfl
theorem cmpAbsx (addr : Word) : Statement (.cmpAbsx addr) := of_entry 0xDD .absx rfl rfl rfl
theorem cmpAbsy (addr : Word) : Statement (.cmpAbsy addr) := of_entry 0xD9 .absy rfl rfl rfl
theorem cmpIndx (z : Byte) : Statement (.cmpIndx z) := of_entry 0xC1 .indx rfl rfl rfl
theorem cmpIndy (z : Byte) : Statement (.cmpIndy z) := of_entry 0xD1 .indy rfl rfl rfl
theorem cpxImm (d8 : Byte) : Statement (.cpxImm d8) := of_entry 0xE0 .imm rfl rfl rfl
theorem cpxZp (z : Byte) : Statement (.cpxZp z) := of_entry 0xE4 .zp rfl rfl rfl
theorem cpxAbs (addr : Word) : Statement (.cpxAbs addr) := of_entry 0xEC .abs rfl rfl rfl
theorem cpyImm (d8 : Byte) : Statement (.cpyImm d8) := of_entry 0xC0 .imm rfl rfl rfl
theorem cpyZp (z : Byte) : Statement (.cpyZp z) := of_entry 0xC4 .zp rfl rfl rfl
theorem cpyAbs (addr : Word) : Statement (.cpyAbs addr) := of_entry 0xCC .abs rfl rfl rfl
theorem bitZp (z : Byte) : Statement (.bitZp z) := of_entry 0x24 .zp rfl rfl rfl
theorem bitAbs (addr : Word) : Statement (.bitAbs addr) := of_entry 0x2C .abs rfl rfl rfl
theorem incZp (z : Byte) : Statement (.incZp z) := of_entry 0xE6 .zp rfl rfl rfl
theorem incZpx (z : Byte) : Statement (.incZpx z) := of_entry 0xF6 .zpx rfl rfl rfl
theorem incAbs (addr : Word) : Statement (.incAbs addr) := of_entry 0xEE .abs rfl rfl rfl
theorem incAbsx (addr : Word) : Statement (.incAbsx addr) := of_entry 0xFE .absx rfl rfl rfl
theorem decZp (z : Byte) : Statement (.decZp z) := of_entry 0xC6 .zp rfl rfl rfl
theorem decZpx (z : Byte) : Statement (.decZpx z) := of_entry 0xD6 .zpx rfl rfl rfl
theorem decAbs (addr : Word) : Statement (.decAbs addr) := of_entry 0xCE .abs rfl rfl rfl
theorem decAbsx (addr : Word) : Statement (.decAbsx addr) := of_entry 0xDE .absx rfl rfl rfl
theorem aslAcc : Statement .aslAcc := of_entry 0x0A .acc rfl rfl rfl
theorem aslZp (z : Byte) : Statement (.aslZp z) := of_entry 0x06 .zp rfl rfl rfl
theorem aslZpx (z : Byte) : Statement (.aslZpx z) := of_entry 0x16 .zpx rfl rfl rfl
theorem aslAbs (addr : Word) : Statement (.aslAbs addr) := of_entry 0x0E .abs rfl rfl rfl
theorem aslAbsx (addr : Word) : Statement (.aslAbsx addr) := of_entry 0x1E .absx rfl rfl rfl
theorem lsrAcc : Statement .lsrAcc := of_entry 0x4A .acc rfl rfl rfl
theorem lsrZp (z : Byte) : Statement (.lsrZp z) := of_entry 0x46 .zp rfl rfl rfl
theorem lsrZpx (z : Byte) : Statement (.lsrZpx z) := of_entry 0x56 .zpx rfl rfl rfl
theorem lsrAbs (addr : Word) : Statement (.lsrAbs addr) := of_entry 0x4E .abs rfl rfl rfl
theorem lsrAbsx (addr : Word) : Statement (.lsrAbsx addr) := of_entry 0x5E .absx rfl rfl rfl
theorem rolAcc : Statement .rolAcc := of_entry 0x2A .acc rfl rfl rfl
theorem rolZp (z : Byte) : Statement (.rolZp z) := of_entry 0x26 .zp rfl rfl rfl
theorem rolZpx (z : Byte) : Statement (.rolZpx z) := of_entry 0x36 .zpx rfl rfl rfl
theorem rolAbs (addr : Word) : Statement (.rolAbs addr) := of_entry 0x2E .abs rfl rfl rfl
theorem rolAbsx (addr : Word) : Statement (.rolAbsx addr) := of_entry 0x3E .absx rfl rfl rfl
theorem rorAcc : Statement .rorAcc := of_entry 0x6A .acc rfl rfl rfl
theorem rorZp (z : Byte) : Statement (.rorZp z) := of_entry 0x66 .zp rfl rfl rfl
theorem rorZpx (z : Byte) : Statement (.rorZpx z) := of_entry 0x76 .zpx rfl rfl rfl
theorem rorAbs (addr : Word) : Statement (.rorAbs addr) := of_entry 0x6E .abs rfl rfl rfl
theorem rorAbsx (addr : Word) : Statement (.rorAbsx addr) := of_entry 0x7E .absx rfl rfl rfl
theorem staZp (z : Byte) : Statement (.staZp z) := of_entry 0x85 .zp rfl rfl rfl
theorem staZpx (z : Byte) : Statement (.staZpx z) := of_entry 0x95 .zpx rfl rfl rfl
theorem staAbs (addr : Word) : Statement (.staAbs addr) := of_entry 0x8D .abs rfl rfl rfl
theorem staAbsx (addr : Word) : Statement (.staAbsx addr) := of_entry 0x9D .absx rfl rfl rfl
theorem staAbsy (addr : Word) : Statement (.staAbsy addr) := of_entry 0x99 .absy rfl rfl rfl
theorem staIndx (z : Byte) : Statement (.staIndx z) := of_entry 0x81 .indx rfl rfl rfl
theorem staIndy (z : Byte) : Statement (.staIndy z) := of_entry 0x91 .indy rfl rfl rfl
theorem stxZp (z : Byte) : Statement (.stxZp z) := of_entry 0x86 .zp rfl rfl rfl
theorem stxZpy (z : Byte) : Statement (.stxZpy z) := of_entry 0x96 .zpy rfl rfl rfl
theorem stxAbs (addr : Word) : Statement (.stxAbs addr) := of_entry 0x8E .abs rfl rfl rfl
theorem styZp (z : Byte) : Statement (.styZp z) := of_entry 0x84 .zp rfl rfl rfl
theorem styZpx (z : Byte) : Statement (.styZpx z) := of_entry 0x94 .zpx rfl rfl rfl
theorem styAbs (addr : Word) : Statement (.styAbs addr) := of_entry 0x8C .abs rfl rfl rfl
theorem clc : Statement .clc := of_entry 0x18 .imp rfl rfl rfl
theorem cld : Statement .cld := of_entry 0xD8 .imp rfl rfl rfl
theorem cli : Statement .cli := of_entry 0x58 .imp rfl rfl rfl
theorem clv : Statement .clv := of_entry 0xB8 .imp rfl rfl rfl
theorem sec : Statement .sec := of_entry 0x38 .imp rfl rfl rfl
theorem sed : Statement .sed := of_entry 0xF8 .imp rfl rfl rfl
theorem sei : Statement .sei := of_entry 0x78 .imp rfl rfl rfl
theorem nop : Statement .nop := of_entry 0xEA .imp rfl rfl rfl
theorem inx : Statement .inx := of_entry 0xE8 .imp rfl rfl rfl
theorem iny : Statement .iny := of_entry 0xC8 .imp rfl rfl rfl
theorem dex : Statement .dex := of_entry 0xCA .imp rfl rfl rfl
theorem dey : Statement .dey := of_entry 0x88 .imp rfl rfl rfl
theorem tax : Statement .tax := of_entry 0xAA .imp rfl rfl rfl
theorem tay : Statement .tay := of_entry 0xA8 .imp rfl rfl rfl
theorem tsx : Statement .tsx := of_entry 0xBA .imp rfl rfl rfl
theorem txa : Statement .txa := of_entry 0x8A .imp rfl rfl rfl
theorem txs : Statement .txs := of_entry 0x9A .imp rfl rfl rfl
theorem tya : Statement .tya := of_entry 0x98 .imp rfl rfl rfl
theorem pha : Statement .pha := of_entry 0x48 .imp rfl rfl rfl
theorem php : Statement .php := of_entry 0x08 .imp rfl rfl rfl
theorem pla : Statement .pla := of_entry 0x68 .imp rfl rfl rfl
theorem plp : Statement .plp := of_entry 0x28 .imp rfl rfl rfl
theorem jsr (target : Word) : Statement (.jsr target) := of_entry 0x20 .abs rfl rfl rfl
theorem rts : Statement .rts := of_entry 0x60 .imp rfl rfl rfl
theorem brk : Statement .brk := of_entry 0x00 .imp rfl rfl rfl
theorem rti : Statement .rti := of_entry 0x40 .imp rfl rfl rfl
theorem jmpAbs (target : Word) : Statement (.jmpAbs target) := of_entry 0x4C .abs rfl rfl rfl
theorem jmpInd (ptr : Word) : Statement (.jmpInd ptr) := of_entry 0x6C .ind rfl rfl rfl
theorem bpl (off : Byte) : Statement (.bpl off) := of_entry 0x10 .rel rfl rfl rfl
theorem bmi (off : Byte) : Statement (.bmi off) := of_entry 0x30 .rel rfl rfl rfl
theorem bvc (off : Byte) : Statement (.bvc off) := of_entry 0x50 .rel rfl rfl rfl
theorem bvs (off : Byte) : Statement (.bvs off) := of_entry 0x70 .rel rfl rfl rfl
theorem bcc (off : Byte) : Statement (.bcc off) := of_entry 0x90 .rel rfl rfl rfl
theorem bcs (off : Byte) : Statement (.bcs off) := of_entry 0xB0 .rel rfl rfl rfl
theorem bne (off : Byte) : Statement (.bne off) := of_entry 0xD0 .rel rfl rfl rfl
theorem beq (off : Byte) : Statement (.beq off) := of_entry 0xF0 .rel rfl rfl rfl
theorem illegal (op : Byte) : Statement (.illegal op) := by
  intro h
  have e : (Instr.illegal op).mode = none := by
    have := illegal_has_no_entry op (by simpa [Instr.wf] using h)
    simp [Instr.mode, Instr.entry, Instr.opcode, encode, this]
  rw [e]
  rfl


end Sys2Proof.Laws.EncodingShape

namespace Sys2Proof.Laws.DispatchRow

/-- Mode, mnemonic and base cycles of an instruction as spec/opcode_table.json lists them (30_encoding.md
R63, R66), written constructor by constructor and not from the matrix of Decode.lean. -/
def row : Instr → Option (Mode × Mnemonic × Nat)
  | .ldaImm _ => some (.imm, .lda, 2)
  | .ldaZp _ => some (.zp, .lda, 3)
  | .ldaZpx _ => some (.zpx, .lda, 4)
  | .ldaAbs _ => some (.abs, .lda, 4)
  | .ldaAbsx _ => some (.absx, .lda, 4)
  | .ldaAbsy _ => some (.absy, .lda, 4)
  | .ldaIndx _ => some (.indx, .lda, 6)
  | .ldaIndy _ => some (.indy, .lda, 5)
  | .ldxImm _ => some (.imm, .ldx, 2)
  | .ldxZp _ => some (.zp, .ldx, 3)
  | .ldxZpy _ => some (.zpy, .ldx, 4)
  | .ldxAbs _ => some (.abs, .ldx, 4)
  | .ldxAbsy _ => some (.absy, .ldx, 4)
  | .ldyImm _ => some (.imm, .ldy, 2)
  | .ldyZp _ => some (.zp, .ldy, 3)
  | .ldyZpx _ => some (.zpx, .ldy, 4)
  | .ldyAbs _ => some (.abs, .ldy, 4)
  | .ldyAbsx _ => some (.absx, .ldy, 4)
  | .oraImm _ => some (.imm, .ora, 2)
  | .oraZp _ => some (.zp, .ora, 3)
  | .oraZpx _ => some (.zpx, .ora, 4)
  | .oraAbs _ => some (.abs, .ora, 4)
  | .oraAbsx _ => some (.absx, .ora, 4)
  | .oraAbsy _ => some (.absy, .ora, 4)
  | .oraIndx _ => some (.indx, .ora, 6)
  | .oraIndy _ => some (.indy, .ora, 5)
  | .andImm _ => some (.imm, .and, 2)
  | .andZp _ => some (.zp, .and, 3)
  | .andZpx _ => some (.zpx, .and, 4)
  | .andAbs _ => some (.abs, .and, 4)
  | .andAbsx _ => some (.absx, .and, 4)
  | .andAbsy _ => some (.absy, .and, 4)
  | .andIndx _ => some (.indx, .and, 6)
  | .andIndy _ => some (.indy, .and, 5)
  | .eorImm _ => some (.imm, .eor, 2)
  | .eorZp _ => some (.zp, .eor, 3)
  | .eorZpx _ => some (.zpx, .eor, 4)
  | .eorAbs _ => some (.abs, .eor, 4)
  | .eorAbsx _ => some (.absx, .eor, 4)
  | .eorAbsy _ => some (.absy, .eor, 4)
  | .eorIndx _ => some (.indx, .eor, 6)
  | .eorIndy _ => some (.indy, .eor, 5)
  | .adcImm _ => some (.imm, .adc, 2)
  | .adcZp _ => some (.zp, .adc, 3)
  | .adcZpx _ => some (.zpx, .adc, 4)
  | .adcAbs _ => some (.abs, .adc, 4)
  | .adcAbsx _ => some (.absx, .adc, 4)
  | .adcAbsy _ => some (.absy, .adc, 4)
  | .adcIndx _ => some (.indx, .adc, 6)
  | .adcIndy _ => some (.indy, .adc, 5)
  | .sbcImm _ => some (.imm, .sbc, 2)
  | .sbcZp _ => some (.zp, .sbc, 3)
  | .sbcZpx _ => some (.zpx, .sbc, 4)
  | .sbcAbs _ => some (.abs, .sbc, 4)
  | .sbcAbsx _ => some (.absx, .sbc, 4)
  | .sbcAbsy _ => some (.absy, .sbc, 4)
  | .sbcIndx _ => some (.indx, .sbc, 6)
  | .sbcIndy _ => some (.indy, .sbc, 5)
  | .cmpImm _ => some (.imm, .cmp, 2)
  | .cmpZp _ => some (.zp, .cmp, 3)
  | .cmpZpx _ => some (.zpx, .cmp, 4)
  | .cmpAbs _ => some (.abs, .cmp, 4)
  | .cmpAbsx _ => some (.absx, .cmp, 4)
  | .cmpAbsy _ => some (.absy, .cmp, 4)
  | .cmpIndx _ => some (.indx, .cmp, 6)
  | .cmpIndy _ => some (.indy, .cmp, 5)
  | .cpxImm _ => some (.imm, .cpx, 2)
  | .cpxZp _ => some (.zp, .cpx, 3)
  | .cpxAbs _ => some (.abs, .cpx, 4)
  | .cpyImm _ => some (.imm, .cpy, 2)
  | .cpyZp _ => some (.zp, .cpy, 3)
  | .cpyAbs _ => some (.abs, .cpy, 4)
  | .bitZp _ => some (.zp, .bit, 3)
  | .bitAbs _ => some (.abs, .bit, 4)
  | .incZp _ => some (.zp, .inc, 5)
  | .incZpx _ => some (.zpx, .inc, 6)
  | .incAbs _ => some (.abs, .inc, 6)
  | .incAbsx _ => some (.absx, .inc, 7)
  | .decZp _ => some (.zp, .dec, 5)
  | .decZpx _ => some (.zpx, .dec, 6)
  | .decAbs _ => some (.abs, .dec, 6)
  | .decAbsx _ => some (.absx, .dec, 7)
  | .aslAcc => some (.acc, .asl, 2)
  | .aslZp _ => some (.zp, .asl, 5)
  | .aslZpx _ => some (.zpx, .asl, 6)
  | .aslAbs _ => some (.abs, .asl, 6)
  | .aslAbsx _ => some (.absx, .asl, 7)
  | .lsrAcc => some (.acc, .lsr, 2)
  | .lsrZp _ => some (.zp, .lsr, 5)
  | .lsrZpx _ => some (.zpx, .lsr, 6)
  | .lsrAbs _ => some (.abs, .lsr, 6)
  | .lsrAbsx _ => some (.absx, .lsr, 7)
  | .rolAcc => some (.acc, .rol, 2)
  | .rolZp _ => some (.zp, .rol, 5)
  | .rolZpx _ => some (.zpx, .rol, 6)
  | .rolAbs _ => some (.abs, .rol, 6)
  | .rolAbsx _ => some (.absx, .rol, 7)
  | .rorAcc => some (.acc, .ror, 2)
  | .rorZp _ => some (.zp, .ror, 5)
  | .rorZpx _ => some (.zpx, .ror, 6)
  | .rorAbs _ => some (.abs, .ror, 6)
  | .rorAbsx _ => some (.absx, .ror, 7)
  | .staZp _ => some (.zp, .sta, 3)
  | .staZpx _ => some (.zpx, .sta, 4)
  | .staAbs _ => some (.abs, .sta, 4)
  | .staAbsx _ => some (.absx, .sta, 5)
  | .staAbsy _ => some (.absy, .sta, 5)
  | .staIndx _ => some (.indx, .sta, 6)
  | .staIndy _ => some (.indy, .sta, 6)
  | .stxZp _ => some (.zp, .stx, 3)
  | .stxZpy _ => some (.zpy, .stx, 4)
  | .stxAbs _ => some (.abs, .stx, 4)
  | .styZp _ => some (.zp, .sty, 3)
  | .styZpx _ => some (.zpx, .sty, 4)
  | .styAbs _ => some (.abs, .sty, 4)
  | .clc => some (.imp, .clc, 2)
  | .cld => some (.imp, .cld, 2)
  | .cli => some (.imp, .cli, 2)
  | .clv => some (.imp, .clv, 2)
  | .sec => some (.imp, .sec, 2)
  | .sed => some (.imp, .sed, 2)
  | .sei => some (.imp, .sei, 2)
  | .nop => some (.imp, .nop, 2)
  | .inx => some (.imp, .inx, 2)
  | .iny => some (.imp, .iny, 2)
  | .dex => some (.imp, .dex, 2)
  | .dey => some (.imp, .dey, 2)
  | .tax => some (.imp, .tax, 2)
  | .tay => some (.imp, .tay, 2)
  | .tsx => some (.imp, .tsx, 2)
  | .txa => some (.imp, .txa, 2)
  | .txs => some (.imp, .txs, 2)
  | .tya => some (.imp, .tya, 2)
  | .pha => some (.imp, .pha, 3)
  | .php => some (.imp, .php, 3)
  | .pla => some (.imp, .pla, 4)
  | .plp => some (.imp, .plp, 4)
  | .jsr _ => some (.abs, .jsr, 6)
  | .rts => some (.imp, .rts, 6)
  | .brk => some (.imp, .brk, 7)
  | .rti => some (.imp, .rti, 6)
  | .jmpAbs _ => some (.abs, .jmp, 3)
  | .jmpInd _ => some (.ind, .jmp, 5)
  | .bpl _ => some (.rel, .bpl, 2)
  | .bmi _ => some (.rel, .bmi, 2)
  | .bvc _ => some (.rel, .bvc, 2)
  | .bvs _ => some (.rel, .bvs, 2)
  | .bcc _ => some (.rel, .bcc, 2)
  | .bcs _ => some (.rel, .bcs, 2)
  | .bne _ => some (.rel, .bne, 2)
  | .beq _ => some (.rel, .beq, 2)
  | .illegal _ => none

/-- The dispatch entry of a well-formed instruction's opcode byte is the table's row for it. -/
def Statement (i : Instr) : Prop :=
  i.wf = true → i.entry.map (fun e => (e.mode, e.instruction, e.baseCycles)) = row i

/-- The statement, from the opcode byte and the table lookup. -/
theorem of_opcode {i : Instr} (op : Byte) (opcode : i.opcode = op)
    (lookup : (dispatchEntry op).map (fun e => (e.mode, e.instruction, e.baseCycles)) = row i) :
    Statement i := by
  intro _
  rw [Instr.entry, opcode]
  exact lookup

theorem ldaImm (d8 : Byte) : Statement (.ldaImm d8) := of_opcode 0xA9 rfl rfl
theorem ldaZp (z : Byte) : Statement (.ldaZp z) := of_opcode 0xA5 rfl rfl
theorem ldaZpx (z : Byte) : Statement (.ldaZpx z) := of_opcode 0xB5 rfl rfl
theorem ldaAbs (addr : Word) : Statement (.ldaAbs addr) := of_opcode 0xAD rfl rfl
theorem ldaAbsx (addr : Word) : Statement (.ldaAbsx addr) := of_opcode 0xBD rfl rfl
theorem ldaAbsy (addr : Word) : Statement (.ldaAbsy addr) := of_opcode 0xB9 rfl rfl
theorem ldaIndx (z : Byte) : Statement (.ldaIndx z) := of_opcode 0xA1 rfl rfl
theorem ldaIndy (z : Byte) : Statement (.ldaIndy z) := of_opcode 0xB1 rfl rfl
theorem ldxImm (d8 : Byte) : Statement (.ldxImm d8) := of_opcode 0xA2 rfl rfl
theorem ldxZp (z : Byte) : Statement (.ldxZp z) := of_opcode 0xA6 rfl rfl
theorem ldxZpy (z : Byte) : Statement (.ldxZpy z) := of_opcode 0xB6 rfl rfl
theorem ldxAbs (addr : Word) : Statement (.ldxAbs addr) := of_opcode 0xAE rfl rfl
theorem ldxAbsy (addr : Word) : Statement (.ldxAbsy addr) := of_opcode 0xBE rfl rfl
theorem ldyImm (d8 : Byte) : Statement (.ldyImm d8) := of_opcode 0xA0 rfl rfl
theorem ldyZp (z : Byte) : Statement (.ldyZp z) := of_opcode 0xA4 rfl rfl
theorem ldyZpx (z : Byte) : Statement (.ldyZpx z) := of_opcode 0xB4 rfl rfl
theorem ldyAbs (addr : Word) : Statement (.ldyAbs addr) := of_opcode 0xAC rfl rfl
theorem ldyAbsx (addr : Word) : Statement (.ldyAbsx addr) := of_opcode 0xBC rfl rfl
theorem oraImm (d8 : Byte) : Statement (.oraImm d8) := of_opcode 0x09 rfl rfl
theorem oraZp (z : Byte) : Statement (.oraZp z) := of_opcode 0x05 rfl rfl
theorem oraZpx (z : Byte) : Statement (.oraZpx z) := of_opcode 0x15 rfl rfl
theorem oraAbs (addr : Word) : Statement (.oraAbs addr) := of_opcode 0x0D rfl rfl
theorem oraAbsx (addr : Word) : Statement (.oraAbsx addr) := of_opcode 0x1D rfl rfl
theorem oraAbsy (addr : Word) : Statement (.oraAbsy addr) := of_opcode 0x19 rfl rfl
theorem oraIndx (z : Byte) : Statement (.oraIndx z) := of_opcode 0x01 rfl rfl
theorem oraIndy (z : Byte) : Statement (.oraIndy z) := of_opcode 0x11 rfl rfl
theorem andImm (d8 : Byte) : Statement (.andImm d8) := of_opcode 0x29 rfl rfl
theorem andZp (z : Byte) : Statement (.andZp z) := of_opcode 0x25 rfl rfl
theorem andZpx (z : Byte) : Statement (.andZpx z) := of_opcode 0x35 rfl rfl
theorem andAbs (addr : Word) : Statement (.andAbs addr) := of_opcode 0x2D rfl rfl
theorem andAbsx (addr : Word) : Statement (.andAbsx addr) := of_opcode 0x3D rfl rfl
theorem andAbsy (addr : Word) : Statement (.andAbsy addr) := of_opcode 0x39 rfl rfl
theorem andIndx (z : Byte) : Statement (.andIndx z) := of_opcode 0x21 rfl rfl
theorem andIndy (z : Byte) : Statement (.andIndy z) := of_opcode 0x31 rfl rfl
theorem eorImm (d8 : Byte) : Statement (.eorImm d8) := of_opcode 0x49 rfl rfl
theorem eorZp (z : Byte) : Statement (.eorZp z) := of_opcode 0x45 rfl rfl
theorem eorZpx (z : Byte) : Statement (.eorZpx z) := of_opcode 0x55 rfl rfl
theorem eorAbs (addr : Word) : Statement (.eorAbs addr) := of_opcode 0x4D rfl rfl
theorem eorAbsx (addr : Word) : Statement (.eorAbsx addr) := of_opcode 0x5D rfl rfl
theorem eorAbsy (addr : Word) : Statement (.eorAbsy addr) := of_opcode 0x59 rfl rfl
theorem eorIndx (z : Byte) : Statement (.eorIndx z) := of_opcode 0x41 rfl rfl
theorem eorIndy (z : Byte) : Statement (.eorIndy z) := of_opcode 0x51 rfl rfl
theorem adcImm (d8 : Byte) : Statement (.adcImm d8) := of_opcode 0x69 rfl rfl
theorem adcZp (z : Byte) : Statement (.adcZp z) := of_opcode 0x65 rfl rfl
theorem adcZpx (z : Byte) : Statement (.adcZpx z) := of_opcode 0x75 rfl rfl
theorem adcAbs (addr : Word) : Statement (.adcAbs addr) := of_opcode 0x6D rfl rfl
theorem adcAbsx (addr : Word) : Statement (.adcAbsx addr) := of_opcode 0x7D rfl rfl
theorem adcAbsy (addr : Word) : Statement (.adcAbsy addr) := of_opcode 0x79 rfl rfl
theorem adcIndx (z : Byte) : Statement (.adcIndx z) := of_opcode 0x61 rfl rfl
theorem adcIndy (z : Byte) : Statement (.adcIndy z) := of_opcode 0x71 rfl rfl
theorem sbcImm (d8 : Byte) : Statement (.sbcImm d8) := of_opcode 0xE9 rfl rfl
theorem sbcZp (z : Byte) : Statement (.sbcZp z) := of_opcode 0xE5 rfl rfl
theorem sbcZpx (z : Byte) : Statement (.sbcZpx z) := of_opcode 0xF5 rfl rfl
theorem sbcAbs (addr : Word) : Statement (.sbcAbs addr) := of_opcode 0xED rfl rfl
theorem sbcAbsx (addr : Word) : Statement (.sbcAbsx addr) := of_opcode 0xFD rfl rfl
theorem sbcAbsy (addr : Word) : Statement (.sbcAbsy addr) := of_opcode 0xF9 rfl rfl
theorem sbcIndx (z : Byte) : Statement (.sbcIndx z) := of_opcode 0xE1 rfl rfl
theorem sbcIndy (z : Byte) : Statement (.sbcIndy z) := of_opcode 0xF1 rfl rfl
theorem cmpImm (d8 : Byte) : Statement (.cmpImm d8) := of_opcode 0xC9 rfl rfl
theorem cmpZp (z : Byte) : Statement (.cmpZp z) := of_opcode 0xC5 rfl rfl
theorem cmpZpx (z : Byte) : Statement (.cmpZpx z) := of_opcode 0xD5 rfl rfl
theorem cmpAbs (addr : Word) : Statement (.cmpAbs addr) := of_opcode 0xCD rfl rfl
theorem cmpAbsx (addr : Word) : Statement (.cmpAbsx addr) := of_opcode 0xDD rfl rfl
theorem cmpAbsy (addr : Word) : Statement (.cmpAbsy addr) := of_opcode 0xD9 rfl rfl
theorem cmpIndx (z : Byte) : Statement (.cmpIndx z) := of_opcode 0xC1 rfl rfl
theorem cmpIndy (z : Byte) : Statement (.cmpIndy z) := of_opcode 0xD1 rfl rfl
theorem cpxImm (d8 : Byte) : Statement (.cpxImm d8) := of_opcode 0xE0 rfl rfl
theorem cpxZp (z : Byte) : Statement (.cpxZp z) := of_opcode 0xE4 rfl rfl
theorem cpxAbs (addr : Word) : Statement (.cpxAbs addr) := of_opcode 0xEC rfl rfl
theorem cpyImm (d8 : Byte) : Statement (.cpyImm d8) := of_opcode 0xC0 rfl rfl
theorem cpyZp (z : Byte) : Statement (.cpyZp z) := of_opcode 0xC4 rfl rfl
theorem cpyAbs (addr : Word) : Statement (.cpyAbs addr) := of_opcode 0xCC rfl rfl
theorem bitZp (z : Byte) : Statement (.bitZp z) := of_opcode 0x24 rfl rfl
theorem bitAbs (addr : Word) : Statement (.bitAbs addr) := of_opcode 0x2C rfl rfl
theorem incZp (z : Byte) : Statement (.incZp z) := of_opcode 0xE6 rfl rfl
theorem incZpx (z : Byte) : Statement (.incZpx z) := of_opcode 0xF6 rfl rfl
theorem incAbs (addr : Word) : Statement (.incAbs addr) := of_opcode 0xEE rfl rfl
theorem incAbsx (addr : Word) : Statement (.incAbsx addr) := of_opcode 0xFE rfl rfl
theorem decZp (z : Byte) : Statement (.decZp z) := of_opcode 0xC6 rfl rfl
theorem decZpx (z : Byte) : Statement (.decZpx z) := of_opcode 0xD6 rfl rfl
theorem decAbs (addr : Word) : Statement (.decAbs addr) := of_opcode 0xCE rfl rfl
theorem decAbsx (addr : Word) : Statement (.decAbsx addr) := of_opcode 0xDE rfl rfl
theorem aslAcc : Statement .aslAcc := of_opcode 0x0A rfl rfl
theorem aslZp (z : Byte) : Statement (.aslZp z) := of_opcode 0x06 rfl rfl
theorem aslZpx (z : Byte) : Statement (.aslZpx z) := of_opcode 0x16 rfl rfl
theorem aslAbs (addr : Word) : Statement (.aslAbs addr) := of_opcode 0x0E rfl rfl
theorem aslAbsx (addr : Word) : Statement (.aslAbsx addr) := of_opcode 0x1E rfl rfl
theorem lsrAcc : Statement .lsrAcc := of_opcode 0x4A rfl rfl
theorem lsrZp (z : Byte) : Statement (.lsrZp z) := of_opcode 0x46 rfl rfl
theorem lsrZpx (z : Byte) : Statement (.lsrZpx z) := of_opcode 0x56 rfl rfl
theorem lsrAbs (addr : Word) : Statement (.lsrAbs addr) := of_opcode 0x4E rfl rfl
theorem lsrAbsx (addr : Word) : Statement (.lsrAbsx addr) := of_opcode 0x5E rfl rfl
theorem rolAcc : Statement .rolAcc := of_opcode 0x2A rfl rfl
theorem rolZp (z : Byte) : Statement (.rolZp z) := of_opcode 0x26 rfl rfl
theorem rolZpx (z : Byte) : Statement (.rolZpx z) := of_opcode 0x36 rfl rfl
theorem rolAbs (addr : Word) : Statement (.rolAbs addr) := of_opcode 0x2E rfl rfl
theorem rolAbsx (addr : Word) : Statement (.rolAbsx addr) := of_opcode 0x3E rfl rfl
theorem rorAcc : Statement .rorAcc := of_opcode 0x6A rfl rfl
theorem rorZp (z : Byte) : Statement (.rorZp z) := of_opcode 0x66 rfl rfl
theorem rorZpx (z : Byte) : Statement (.rorZpx z) := of_opcode 0x76 rfl rfl
theorem rorAbs (addr : Word) : Statement (.rorAbs addr) := of_opcode 0x6E rfl rfl
theorem rorAbsx (addr : Word) : Statement (.rorAbsx addr) := of_opcode 0x7E rfl rfl
theorem staZp (z : Byte) : Statement (.staZp z) := of_opcode 0x85 rfl rfl
theorem staZpx (z : Byte) : Statement (.staZpx z) := of_opcode 0x95 rfl rfl
theorem staAbs (addr : Word) : Statement (.staAbs addr) := of_opcode 0x8D rfl rfl
theorem staAbsx (addr : Word) : Statement (.staAbsx addr) := of_opcode 0x9D rfl rfl
theorem staAbsy (addr : Word) : Statement (.staAbsy addr) := of_opcode 0x99 rfl rfl
theorem staIndx (z : Byte) : Statement (.staIndx z) := of_opcode 0x81 rfl rfl
theorem staIndy (z : Byte) : Statement (.staIndy z) := of_opcode 0x91 rfl rfl
theorem stxZp (z : Byte) : Statement (.stxZp z) := of_opcode 0x86 rfl rfl
theorem stxZpy (z : Byte) : Statement (.stxZpy z) := of_opcode 0x96 rfl rfl
theorem stxAbs (addr : Word) : Statement (.stxAbs addr) := of_opcode 0x8E rfl rfl
theorem styZp (z : Byte) : Statement (.styZp z) := of_opcode 0x84 rfl rfl
theorem styZpx (z : Byte) : Statement (.styZpx z) := of_opcode 0x94 rfl rfl
theorem styAbs (addr : Word) : Statement (.styAbs addr) := of_opcode 0x8C rfl rfl
theorem clc : Statement .clc := of_opcode 0x18 rfl rfl
theorem cld : Statement .cld := of_opcode 0xD8 rfl rfl
theorem cli : Statement .cli := of_opcode 0x58 rfl rfl
theorem clv : Statement .clv := of_opcode 0xB8 rfl rfl
theorem sec : Statement .sec := of_opcode 0x38 rfl rfl
theorem sed : Statement .sed := of_opcode 0xF8 rfl rfl
theorem sei : Statement .sei := of_opcode 0x78 rfl rfl
theorem nop : Statement .nop := of_opcode 0xEA rfl rfl
theorem inx : Statement .inx := of_opcode 0xE8 rfl rfl
theorem iny : Statement .iny := of_opcode 0xC8 rfl rfl
theorem dex : Statement .dex := of_opcode 0xCA rfl rfl
theorem dey : Statement .dey := of_opcode 0x88 rfl rfl
theorem tax : Statement .tax := of_opcode 0xAA rfl rfl
theorem tay : Statement .tay := of_opcode 0xA8 rfl rfl
theorem tsx : Statement .tsx := of_opcode 0xBA rfl rfl
theorem txa : Statement .txa := of_opcode 0x8A rfl rfl
theorem txs : Statement .txs := of_opcode 0x9A rfl rfl
theorem tya : Statement .tya := of_opcode 0x98 rfl rfl
theorem pha : Statement .pha := of_opcode 0x48 rfl rfl
theorem php : Statement .php := of_opcode 0x08 rfl rfl
theorem pla : Statement .pla := of_opcode 0x68 rfl rfl
theorem plp : Statement .plp := of_opcode 0x28 rfl rfl
theorem jsr (target : Word) : Statement (.jsr target) := of_opcode 0x20 rfl rfl
theorem rts : Statement .rts := of_opcode 0x60 rfl rfl
theorem brk : Statement .brk := of_opcode 0x00 rfl rfl
theorem rti : Statement .rti := of_opcode 0x40 rfl rfl
theorem jmpAbs (target : Word) : Statement (.jmpAbs target) := of_opcode 0x4C rfl rfl
theorem jmpInd (ptr : Word) : Statement (.jmpInd ptr) := of_opcode 0x6C rfl rfl
theorem bpl (off : Byte) : Statement (.bpl off) := of_opcode 0x10 rfl rfl
theorem bmi (off : Byte) : Statement (.bmi off) := of_opcode 0x30 rfl rfl
theorem bvc (off : Byte) : Statement (.bvc off) := of_opcode 0x50 rfl rfl
theorem bvs (off : Byte) : Statement (.bvs off) := of_opcode 0x70 rfl rfl
theorem bcc (off : Byte) : Statement (.bcc off) := of_opcode 0x90 rfl rfl
theorem bcs (off : Byte) : Statement (.bcs off) := of_opcode 0xB0 rfl rfl
theorem bne (off : Byte) : Statement (.bne off) := of_opcode 0xD0 rfl rfl
theorem beq (off : Byte) : Statement (.beq off) := of_opcode 0xF0 rfl rfl
theorem illegal (op : Byte) : Statement (.illegal op) := by
  intro h
  have e := illegal_has_no_entry op (by simpa [Instr.wf] using h)
  simp [Instr.entry, Instr.opcode, encode, e, row]


/-- What a row says of the instruction's mode, mnemonic, shape and base cycles. -/
theorem fields {i : Instr} {m : Mode} {mn : Mnemonic} {n : Nat} (h : Statement i) (wf : i.wf = true)
    (r : row i = some (m, mn, n)) :
    i.mode = some m ∧ i.mnemonic = some mn ∧ i.shape = some mn.shape ∧ i.baseCycles = some n := by
  have e := (h wf).trans r
  cases he : i.entry with
  | none => simp [he] at e
  | some d =>
    simp only [he, Option.map_some, Option.some.injEq, Prod.mk.injEq] at e
    obtain ⟨rfl, rfl, rfl⟩ := e
    simp [Instr.mode, Instr.mnemonic, Instr.shape, Instr.baseCycles, he]

end Sys2Proof.Laws.DispatchRow
end

