-- ==== Sys2Proof/Laws/Stack.lean ====
section
/-!
SUPPORT. What the stack operations do, each said once: bytes stored in one, two or three places, and
what entering a handler leaves.
-/

namespace Sys2Proof.Machine

theorem State.inDevice_eq_of_windows {s t : State} (h : t.deviceWindows = s.deviceWindows) (a : Word) :
    t.inDevice a = s.inDevice a := by
  simp only [State.inDevice, h]

/-- What a bus write does to memory, in the claims' words. -/
theorem stored_memWrite (s : State) (a : Word) (v : Byte) : Stored [(a, v)] s (s.memWrite a v) := by
  obtain ⟨other, plain, device⟩ := State.memWrite_stored s a v
  refine ⟨fun b hb => other b (hb (a, v) List.mem_cons_self), fun c hc => ?_⟩
  obtain rfl := List.mem_singleton.mp hc
  exact ⟨fun hd hw => plain hw hd, fun hd => by rw [device hd]⟩

/-- `Stored` looks at memory alone, on both sides. -/
theorem Stored.of_mem {stores : List (Word × Byte)} {s s' t t' : State} (h : Stored stores s t)
    (hs : s'.mem = s.mem) (ht : t'.mem = t.mem) (hd : s'.deviceWindows = s.deviceWindows) :
    Stored stores s' t' := by
  obtain ⟨other, at_⟩ := h
  refine ⟨fun b hb => by rw [hs, ht]; exact other b hb, fun c hc => ?_⟩
  rw [hs, ht, State.inDevice_eq_of_windows hd]
  exact at_ c hc

/-- One more byte, stored at an address that is none of the earlier ones. -/
theorem Stored.memWrite {stores : List (Word × Byte)} {s t : State} (h : Stored stores s t)
    (hd : t.deviceWindows = s.deviceWindows) (hw : s.mem.wf = true → t.mem.wf = true)
    {a : Word} (v : Byte) (fresh : ∀ c ∈ stores, c.1 ≠ a) :
    Stored (stores ++ [(a, v)]) s (t.memWrite a v) := by
  obtain ⟨other, at_⟩ := h
  obtain ⟨other', at_'⟩ := stored_memWrite t a v
  have away : ∀ c ∈ stores, (t.memWrite a v).mem.read c.1.toNat = t.mem.read c.1.toNat := by
    intro c hc
    refine other' _ fun d hd' => ?_
    obtain rfl := List.mem_singleton.mp hd'
    exact fun e => fresh c hc (BitVec.eq_of_toNat_eq e)
  refine ⟨fun b hb => ?_, fun c hc => ?_⟩
  · rw [other' b fun c hc => hb c (List.mem_append_right _ hc),
      other b fun c hc => hb c (List.mem_append_left _ hc)]
  · rcases List.mem_append.mp hc with hc | hc
    · rw [away c hc]
      exact at_ c hc
    · have here := at_' c hc
      rw [State.inDevice_eq_of_windows hd] at here
      refine ⟨fun h1 h2 => here.1 h1 (hw h2), fun h1 => ?_⟩
      obtain rfl := List.mem_singleton.mp hc
      rw [here.2 h1]
      exact other _ fun c hc => fun e => fresh c hc (BitVec.eq_of_toNat_eq e).symm

/-- The address of the stack, as a number: always in page 1 (10_state.md R24). -/
theorem toNat_stackAddr (p : Byte) : (stackAddr p).toNat = 256 + p.toNat := by
  have hp := p.isLt
  have h : (0x0100 : Word).toNat = 256 := rfl
  simp only [stackAddr, BitVec.toNat_add, BitVec.toNat_setWidth, h]
  omega

/-- Two stack pointers that differ designate two addresses. -/
theorem stackAddr_ne {p q : Byte} (h : p ≠ q) : stackAddr p ≠ stackAddr q := by
  intro e
  have := congrArg BitVec.toNat e
  rw [toNat_stackAddr, toNat_stackAddr] at this
  exact h (BitVec.eq_of_toNat_eq (by omega))

/-- Two pushes store two bytes. -/
theorem stored_push_push (s : State) (v w : Byte) :
    Stored [(stackAddr s.sp, v), (stackAddr (s.sp - 1), w)] s ((s.push v).push w) := by
  have one : Stored [(stackAddr s.sp, v)] s (s.push v) :=
    (stored_memWrite s (stackAddr s.sp) v).of_mem rfl rfl rfl
  refine (one.memWrite (a := stackAddr (s.sp - 1)) (t := s.push v) rfl
    (fun h => State.push_wf h v) w ?_).of_mem rfl rfl rfl
  intro c hc
  obtain rfl := List.mem_singleton.mp hc
  exact stackAddr_ne (by bv_omega)

/-- Three pushes store three bytes. -/
theorem stored_push_push_push (s : State) (v w u : Byte) :
    Stored [(stackAddr s.sp, v), (stackAddr (s.sp - 1), w), (stackAddr (s.sp - 2), u)] s
      (((s.push v).push w).push u) := by
  have e : s.sp - 1 - 1 = s.sp - 2 := by bv_omega
  refine ((stored_push_push s v w).memWrite (a := stackAddr (s.sp - 2)) rfl
    (fun h => State.push_wf (State.push_wf h v) w) u ?_).of_mem rfl ?_ rfl
  · intro c hc
    rcases List.mem_cons.mp hc with rfl | hc
    · exact stackAddr_ne (by bv_omega)
    · obtain rfl := List.mem_singleton.mp hc
      exact stackAddr_ne (by bv_omega)
  · show (State.memWrite (stackAddr (s.sp - 1 - 1)) u ((s.push v).push w)).mem = _
    rw [e]

/-- What entering a handler leaves, in the claims' words. -/
theorem takeException_entered (vector : Word) (b : Bool) (s : State) :
    Entered vector b s (takeException vector b s) := by
  have e2 : s.sp - 1 - 1 = s.sp - 2 := by bv_omega
  have e3 : s.sp - 2 - 1 = s.sp - 3 := by bv_omega
  have pushes := stored_push_push_push s (highByte s.pc) (lowByte s.pc) (s.flags.packP b)
  refine ⟨?_, pushes.of_mem rfl rfl rfl⟩
  simp only [takeException, State.push, State.memWrite, State.setFlags, State.readVector, State.memRead,
    State.busAnswer, State.inDevice, State.peek, e2, e3, readOf, writeOf, stackAddr, List.cons_append,
    List.nil_append, Nat.add_assoc]

/-- A push: one write at the stack address, then the pointer one lower (10_state.md R26). -/
theorem push_eq (s : State) (v : Byte) :
    s.push v =
      { s with
        sp := s.sp - 1
        cycles := s.cycles + 1
        mem := (s.memWrite (stackAddr s.sp) v).mem
        bus := writeOf (stackAddr s.sp) v :: s.bus } := rfl

/-- A pull: the pointer one higher, then one read at the stack address (10_state.md R26). -/
theorem pull_eq (s : State) :
    s.pull =
      (s.busAnswer (stackAddr (s.sp + 1)),
        { s with
          sp := s.sp + 1
          cycles := s.cycles + 1
          bus := readOf (stackAddr (s.sp + 1)) (s.busAnswer (stackAddr (s.sp + 1))) :: s.bus }) := rfl

/-- What returning from a handler leaves: P, PC low and PC high pulled, S three higher, three ticks,
nothing else (46_stack_subroutine.md R173). -/
theorem returnFromException_eq (s : State) :
    let a1 := stackAddr (s.sp + 1)
    let a2 := stackAddr (s.sp + 2)
    let a3 := stackAddr (s.sp + 3)
    let b1 := readOf a1 (s.busAnswer a1) :: s.bus
    let lo := ({ s with bus := b1 } : State).busAnswer a2
    let b2 := readOf a2 lo :: b1
    let hi := ({ s with bus := b2 } : State).busAnswer a3
    returnFromException s =
      { s with
        pc := wordOf hi lo
        sp := s.sp + 3
        flags := Flags.unpackP (s.busAnswer a1)
        cycles := s.cycles + 3
        bus := readOf a3 hi :: b2 } := by
  have e2 : s.sp + 1 + 1 = s.sp + 2 := by bv_omega
  have e3 : s.sp + 2 + 1 = s.sp + 3 := by bv_omega
  simp only [returnFromException, pull_eq, e2, e3]
  rfl

/-- The six flags survive a push of P and a pull of it, whatever the B position (10_state.md R30). -/
theorem unpackP_packP (b : Bool) (f : Flags) : Flags.unpackP (f.packP b) = f := by
  obtain ⟨n, v, d, i, z, c⟩ := f
  cases b <;> cases n <;> cases v <;> cases d <;> cases i <;> cases z <;> cases c <;> decide

end Sys2Proof.Machine
end

