-- ==== Sys2Proof/Laws/Step.lean ====
section
/-!
SUPPORT. The three things a step can do, said once; what fetching bytes leaves; what each host event
leaves of memory and platform.
-/

namespace Sys2Proof.Machine

/-- A step is an NMI entry, an IRQ entry, or one fetched instruction. -/
theorem step_cases (s : State) :
    (s.nmiPending = true ∧ step s = .next (takeNmi s)) ∨
    (s.nmiPending = false ∧ s.irqLine = true ∧ s.flags.i = false ∧ step s = .next (takeIrq s)) ∨
    (s.poll = .instruction ∧ step s = exec s.fetchInstr.1 s.fetchInstr.2) := by
  unfold step
  by_cases hn : s.nmiPending = true
  · exact .inl ⟨hn, by simp [State.poll, hn]⟩
  · by_cases hi : (s.irqLine && !s.flags.i) = true
    · refine .inr (.inl ⟨by simpa using hn, ?_⟩)
      have := hi
      simp only [Bool.and_eq_true, Bool.not_eq_true'] at this
      exact ⟨this.1, this.2, by simp [State.poll, hn, hi]⟩
    · refine .inr (.inr ⟨?_, ?_⟩) <;> simp [State.poll, hn, hi]

@[simp] theorem State.fetchBytes_zero (s : State) : s.fetchBytes 0 = ([], s) := rfl

theorem State.fetchBytes_succ (n : Nat) (s : State) :
    s.fetchBytes (n + 1) = (s.fetch8.1 :: (s.fetch8.2.fetchBytes n).1, (s.fetch8.2.fetchBytes n).2) := rfl

/-- Fetching `n` bytes gives `n` bytes. -/
theorem State.length_fetchBytes (n : Nat) (s : State) : (s.fetchBytes n).1.length = n := by
  induction n generalizing s with
  | zero => rfl
  | succ n ih => simp [State.fetchBytes_succ, ih]

/-- Fetching `n` bytes moves PC and `cycles` by `n` and records the reads; nothing else changes. -/
theorem State.fetchBytes_state (n : Nat) (s : State) :
    (s.fetchBytes n).2 =
      { s with
        pc := s.pc + BitVec.ofNat 16 n
        cycles := s.cycles + n
        bus := (s.fetchBytes n).2.bus } := by
  induction n generalizing s with
  | zero => simp [State.fetchBytes]
  | succ n ih =>
    rw [State.fetchBytes_succ]
    simp only
    rw [ih]
    have hp : s.pc + 1 + BitVec.ofNat 16 n = s.pc + BitVec.ofNat 16 (n + 1) := by
      apply BitVec.eq_of_toNat_eq
      have h1 : (1 : Word).toNat = 1 := rfl
      simp only [BitVec.toNat_add, BitVec.toNat_ofNat, h1]
      omega
    have hc : s.cycles + 1 + n = s.cycles + (n + 1) := by omega
    simp only [State.fetch8, State.memRead, hp, hc]

/-- The record of fetching `n` bytes: one read for each, at PC and the addresses after it. -/
theorem State.fetchBytes_bus (n : Nat) (s : State) :
    (s.fetchBytes n).2.bus = (fetchReads s.pc (s.fetchBytes n).1).reverse ++ s.bus := by
  induction n generalizing s with
  | zero => rfl
  | succ n ih =>
    rw [State.fetchBytes_succ]
    simp only [ih, fetchReads, List.reverse_cons, List.append_assoc]
    rfl

/-- Where no device answers, the bytes fetched are those of plain memory at PC and after it. -/
theorem State.fetch8_plain {s : State} (h : s.inDevice s.pc = false) : s.fetch8.1 = s.peek s.pc := by
  simp [State.fetch8, State.memRead, State.busAnswer, h]

/-- What a host event leaves of the invariant's two parts. -/
theorem State.hostEvent_bus (s : State) (e : HostEvent) (h : e ≠ .reset) :
    (s.hostEvent e).bus = s.bus ∧ s.cycles ≤ (s.hostEvent e).cycles := by
  cases e <;> first | exact ⟨rfl, Nat.le_add_right _ _⟩ | exact ⟨rfl, le_rfl⟩ | exact absurd rfl h

end Sys2Proof.Machine
end

