-- ==== Sys2Proof/Tests/Slice0.lean ====
section
/-!
SUPPORT. Tests of the model. Decoding: one word for each constructor, written out from the matrix of
30_encoding.md R66, and words written bit by bit. Steps: single-step vectors of
spec/95_test_vectors.md (its names VA1, VB1, ... stand in the comments), one or two fields each. Then
the witnesses: states and operands that meet the hypotheses of each obligation.
-/

namespace Sys2Proof.Tests

open Sys2Proof.Machine

/-! ### Well-formedness -/

/-- The one check: a byte that has a dispatch entry is no `illegal` (0xA9 is LDA immediate). -/
theorem test_wf_refuses_defined_byte_as_illegal : (Instr.illegal 0xA9).wf = false := by decide

/-- The first, the last and an inner byte of R67's list are accepted. -/
theorem test_wf_accepts_illegal_bytes :
    (Instr.illegal 0x02).wf = true ∧ (Instr.illegal 0x89).wf = true ∧ (Instr.illegal 0xFF).wf = true := by
  decide

/-! ### Decoding, from the matrix of R66

One operand byte is 0x3C; two are 0x34 0x12, low byte first, the value 0x1234. -/

theorem test_decode_brk :
    decode [0x00] = .ok (.brk, []) :=
  rfl

theorem test_decode_ora :
    decode [0x01, 0x3C] = .ok (.oraIndx 0x3C, []) ∧
    decode [0x05, 0x3C] = .ok (.oraZp 0x3C, []) ∧
    decode [0x09, 0x3C] = .ok (.oraImm 0x3C, []) ∧
    decode [0x0D, 0x34, 0x12] = .ok (.oraAbs 0x1234, []) ∧
    decode [0x11, 0x3C] = .ok (.oraIndy 0x3C, []) ∧
    decode [0x15, 0x3C] = .ok (.oraZpx 0x3C, []) ∧
    decode [0x19, 0x34, 0x12] = .ok (.oraAbsy 0x1234, []) ∧
    decode [0x1D, 0x34, 0x12] = .ok (.oraAbsx 0x1234, []) :=
  ⟨rfl, rfl, rfl, rfl, rfl, rfl, rfl, rfl⟩

theorem test_decode_asl :
    decode [0x06, 0x3C] = .ok (.aslZp 0x3C, []) ∧
    decode [0x0A] = .ok (.aslAcc, []) ∧
    decode [0x0E, 0x34, 0x12] = .ok (.aslAbs 0x1234, []) ∧
    decode [0x16, 0x3C] = .ok (.aslZpx 0x3C, []) ∧
    decode [0x1E, 0x34, 0x12] = .ok (.aslAbsx 0x1234, []) :=
  ⟨rfl, rfl, rfl, rfl, rfl⟩

theorem test_decode_php :
    decode [0x08] = .ok (.php, []) :=
  rfl

theorem test_decode_bpl :
    decode [0x10, 0x3C] = .ok (.bpl 0x3C, []) :=
  rfl

theorem test_decode_clc :
    decode [0x18] = .ok (.clc, []) :=
  rfl

theorem test_decode_jsr :
    decode [0x20, 0x34, 0x12] = .ok (.jsr 0x1234, []) :=
  rfl

theorem test_decode_and :
    decode [0x21, 0x3C] = .ok (.andIndx 0x3C, []) ∧
    decode [0x25, 0x3C] = .ok (.andZp 0x3C, []) ∧
    decode [0x29, 0x3C] = .ok (.andImm 0x3C, []) ∧
    decode [0x2D, 0x34, 0x12] = .ok (.andAbs 0x1234, []) ∧
    decode [0x31, 0x3C] = .ok (.andIndy 0x3C, []) ∧
    decode [0x35, 0x3C] = .ok (.andZpx 0x3C, []) ∧
    decode [0x39, 0x34, 0x12] = .ok (.andAbsy 0x1234, []) ∧
    decode [0x3D, 0x34, 0x12] = .ok (.andAbsx 0x1234, []) :=
  ⟨rfl, rfl, rfl, rfl, rfl, rfl, rfl, rfl⟩

theorem test_decode_bit :
    decode [0x24, 0x3C] = .ok (.bitZp 0x3C, []) ∧
    decode [0x2C, 0x34, 0x12] = .ok (.bitAbs 0x1234, []) :=
  ⟨rfl, rfl⟩

theorem test_decode_rol :
    decode [0x26, 0x3C] = .ok (.rolZp 0x3C, []) ∧
    decode [0x2A] = .ok (.rolAcc, []) ∧
    decode [0x2E, 0x34, 0x12] = .ok (.rolAbs 0x1234, []) ∧
    decode [0x36, 0x3C] = .ok (.rolZpx 0x3C, []) ∧
    decode [0x3E, 0x34, 0x12] = .ok (.rolAbsx 0x1234, []) :=
  ⟨rfl, rfl, rfl, rfl, rfl⟩

theorem test_decode_plp :
    decode [0x28] = .ok (.plp, []) :=
  rfl

theorem test_decode_bmi :
    decode [0x30, 0x3C] = .ok (.bmi 0x3C, []) :=
  rfl

theorem test_decode_sec :
    decode [0x38] = .ok (.sec, []) :=
  rfl

theorem test_decode_rti :
    decode [0x40] = .ok (.rti, []) :=
  rfl

theorem test_decode_eor :
    decode [0x41, 0x3C] = .ok (.eorIndx 0x3C, []) ∧
    decode [0x45, 0x3C] = .ok (.eorZp 0x3C, []) ∧
    decode [0x49, 0x3C] = .ok (.eorImm 0x3C, []) ∧
    decode [0x4D, 0x34, 0x12] = .ok (.eorAbs 0x1234, []) ∧
    decode [0x51, 0x3C] = .ok (.eorIndy 0x3C, []) ∧
    decode [0x55, 0x3C] = .ok (.eorZpx 0x3C, []) ∧
    decode [0x59, 0x34, 0x12] = .ok (.eorAbsy 0x1234, []) ∧
    decode [0x5D, 0x34, 0x12] = .ok (.eorAbsx 0x1234, []) :=
  ⟨rfl, rfl, rfl, rfl, rfl, rfl, rfl, rfl⟩

theorem test_decode_lsr :
    decode [0x46, 0x3C] = .ok (.lsrZp 0x3C, []) ∧
    decode [0x4A] = .ok (.lsrAcc, []) ∧
    decode [0x4E, 0x34, 0x12] = .ok (.lsrAbs 0x1234, []) ∧
    decode [0x56, 0x3C] = .ok (.lsrZpx 0x3C, []) ∧
    decode [0x5E, 0x34, 0x12] = .ok (.lsrAbsx 0x1234, []) :=
  ⟨rfl, rfl, rfl, rfl, rfl⟩

theorem test_decode_pha :
    decode [0x48] = .ok (.pha, []) :=
  rfl

theorem test_decode_jmp :
    decode [0x4C, 0x34, 0x12] = .ok (.jmpAbs 0x1234, []) ∧
    decode [0x6C, 0x34, 0x12] = .ok (.jmpInd 0x1234, []) :=
  ⟨rfl, rfl⟩

theorem test_decode_bvc :
    decode [0x50, 0x3C] = .ok (.bvc 0x3C, []) :=
  rfl

theorem test_decode_cli :
    decode [0x58] = .ok (.cli, []) :=
  rfl

theorem test_decode_rts :
    decode [0x60] = .ok (.rts, []) :=
  rfl

theorem test_decode_adc :
    decode [0x61, 0x3C] = .ok (.adcIndx 0x3C, []) ∧
    decode [0x65, 0x3C] = .ok (.adcZp 0x3C, []) ∧
    decode [0x69, 0x3C] = .ok (.adcImm 0x3C, []) ∧
    decode [0x6D, 0x34, 0x12] = .ok (.adcAbs 0x1234, []) ∧
    decode [0x71, 0x3C] = .ok (.adcIndy 0x3C, []) ∧
    decode [0x75, 0x3C] = .ok (.adcZpx 0x3C, []) ∧
    decode [0x79, 0x34, 0x12] = .ok (.adcAbsy 0x1234, []) ∧
    decode [0x7D, 0x34, 0x12] = .ok (.adcAbsx 0x1234, []) :=
  ⟨rfl, rfl, rfl, rfl, rfl, rfl, rfl, rfl⟩

theorem test_decode_ror :
    decode [0x66, 0x3C] = .ok (.rorZp 0x3C, []) ∧
    decode [0x6A] = .ok (.rorAcc, []) ∧
    decode [0x6E, 0x34, 0x12] = .ok (.rorAbs 0x1234, []) ∧
    decode [0x76, 0x3C] = .ok (.rorZpx 0x3C, []) ∧
    decode [0x7E, 0x34, 0x12] = .ok (.rorAbsx 0x1234, []) :=
  ⟨rfl, rfl, rfl, rfl, rfl⟩

theorem test_decode_pla :
    decode [0x68] = .ok (.pla, []) :=
  rfl

theorem test_decode_bvs :
    decode [0x70, 0x3C] = .ok (.bvs 0x3C, []) :=
  rfl

theorem test_decode_sei :
    decode [0x78] = .ok (.sei, []) :=
  rfl

theorem test_decode_sta :
    decode [0x81, 0x3C] = .ok (.staIndx 0x3C, []) ∧
    decode [0x85, 0x3C] = .ok (.staZp 0x3C, []) ∧
    decode [0x8D, 0x34, 0x12] = .ok (.staAbs 0x1234, []) ∧
    decode [0x91, 0x3C] = .ok (.staIndy 0x3C, []) ∧
    decode [0x95, 0x3C] = .ok (.staZpx 0x3C, []) ∧
    decode [0x99, 0x34, 0x12] = .ok (.staAbsy 0x1234, []) ∧
    decode [0x9D, 0x34, 0x12] = .ok (.staAbsx 0x1234, []) :=
  ⟨rfl, rfl, rfl, rfl, rfl, rfl, rfl⟩

theorem test_decode_sty :
    decode [0x84, 0x3C] = .ok (.styZp 0x3C, []) ∧
    decode [0x8C, 0x34, 0x12] = .ok (.styAbs 0x1234, []) ∧
    decode [0x94, 0x3C] = .ok (.styZpx 0x3C, []) :=
  ⟨rfl, rfl, rfl⟩

theorem test_decode_stx :
    decode [0x86, 0x3C] = .ok (.stxZp 0x3C, []) ∧
    decode [0x8E, 0x34, 0x12] = .ok (.stxAbs 0x1234, []) ∧
    decode [0x96, 0x3C] = .ok (.stxZpy 0x3C, []) :=
  ⟨rfl, rfl, rfl⟩

theorem test_decode_dey :
    decode [0x88] = .ok (.dey, []) :=
  rfl

theorem test_decode_txa :
    decode [0x8A] = .ok (.txa, []) :=
  rfl

theorem test_decode_bcc :
    decode [0x90, 0x3C] = .ok (.bcc 0x3C, []) :=
  rfl

theorem test_decode_tya :
    decode [0x98] = .ok (.tya, []) :=
  rfl

theorem test_decode_txs :
    decode [0x9A] = .ok (.txs, []) :=
  rfl

theorem test_decode_ldy :
    decode [0xA0, 0x3C] = .ok (.ldyImm 0x3C, []) ∧
    decode [0xA4, 0x3C] = .ok (.ldyZp 0x3C, []) ∧
    decode [0xAC, 0x34, 0x12] = .ok (.ldyAbs 0x1234, []) ∧
    decode [0xB4, 0x3C] = .ok (.ldyZpx 0x3C, []) ∧
    decode [0xBC, 0x34, 0x12] = .ok (.ldyAbsx 0x1234, []) :=
  ⟨rfl, rfl, rfl, rfl, rfl⟩

theorem test_decode_lda :
    decode [0xA1, 0x3C] = .ok (.ldaIndx 0x3C, []) ∧
    decode [0xA5, 0x3C] = .ok (.ldaZp 0x3C, []) ∧
    decode [0xA9, 0x3C] = .ok (.ldaImm 0x3C, []) ∧
    decode [0xAD, 0x34, 0x12] = .ok (.ldaAbs 0x1234, []) ∧
    decode [0xB1, 0x3C] = .ok (.ldaIndy 0x3C, []) ∧
    decode [0xB5, 0x3C] = .ok (.ldaZpx 0x3C, []) ∧
    decode [0xB9, 0x34, 0x12] = .ok (.ldaAbsy 0x1234, []) ∧
    decode [0xBD, 0x34, 0x12] = .ok (.ldaAbsx 0x1234, []) :=
  ⟨rfl, rfl, rfl, rfl, rfl, rfl, rfl, rfl⟩

theorem test_decode_ldx :
    decode [0xA2, 0x3C] = .ok (.ldxImm 0x3C, []) ∧
    decode [0xA6, 0x3C] = .ok (.ldxZp 0x3C, []) ∧
    decode [0xAE, 0x34, 0x12] = .ok (.ldxAbs 0x1234, []) ∧
    decode [0xB6, 0x3C] = .ok (.ldxZpy 0x3C, []) ∧
    decode [0xBE, 0x34, 0x12] = .ok (.ldxAbsy 0x1234, []) :=
  ⟨rfl, rfl, rfl, rfl, rfl⟩

theorem test_decode_tay :
    decode [0xA8] = .ok (.tay, []) :=
  rfl

theorem test_decode_tax :
    decode [0xAA] = .ok (.tax, []) :=
  rfl

theorem test_decode_bcs :
    decode [0xB0, 0x3C] = .ok (.bcs 0x3C, []) :=
  rfl

theorem test_decode_clv :
    decode [0xB8] = .ok (.clv, []) :=
  rfl

theorem test_decode_tsx :
    decode [0xBA] = .ok (.tsx, []) :=
  rfl

theorem test_decode_cpy :
    decode [0xC0, 0x3C] = .ok (.cpyImm 0x3C, []) ∧
    decode [0xC4, 0x3C] = .ok (.cpyZp 0x3C, []) ∧
    decode [0xCC, 0x34, 0x12] = .ok (.cpyAbs 0x1234, []) :=
  ⟨rfl, rfl, rfl⟩

theorem test_decode_cmp :
    decode [0xC1, 0x3C] = .ok (.cmpIndx 0x3C, []) ∧
    decode [0xC5, 0x3C] = .ok (.cmpZp 0x3C, []) ∧
    decode [0xC9, 0x3C] = .ok (.cmpImm 0x3C, []) ∧
    decode [0xCD, 0x34, 0x12] = .ok (.cmpAbs 0x1234, []) ∧
    decode [0xD1, 0x3C] = .ok (.cmpIndy 0x3C, []) ∧
    decode [0xD5, 0x3C] = .ok (.cmpZpx 0x3C, []) ∧
    decode [0xD9, 0x34, 0x12] = .ok (.cmpAbsy 0x1234, []) ∧
    decode [0xDD, 0x34, 0x12] = .ok (.cmpAbsx 0x1234, []) :=
  ⟨rfl, rfl, rfl, rfl, rfl, rfl, rfl, rfl⟩

theorem test_decode_dec :
    decode [0xC6, 0x3C] = .ok (.decZp 0x3C, []) ∧
    decode [0xCE, 0x34, 0x12] = .ok (.decAbs 0x1234, []) ∧
    decode [0xD6, 0x3C] = .ok (.decZpx 0x3C, []) ∧
    decode [0xDE, 0x34, 0x12] = .ok (.decAbsx 0x1234, []) :=
  ⟨rfl, rfl, rfl, rfl⟩

theorem test_decode_iny :
    decode [0xC8] = .ok (.iny, []) :=
  rfl

theorem test_decode_dex :
    decode [0xCA] = .ok (.dex, []) :=
  rfl

theorem test_decode_bne :
    decode [0xD0, 0x3C] = .ok (.bne 0x3C, []) :=
  rfl

theorem test_decode_cld :
    decode [0xD8] = .ok (.cld, []) :=
  rfl

theorem test_decode_cpx :
    decode [0xE0, 0x3C] = .ok (.cpxImm 0x3C, []) ∧
    decode [0xE4, 0x3C] = .ok (.cpxZp 0x3C, []) ∧
    decode [0xEC, 0x34, 0x12] = .ok (.cpxAbs 0x1234, []) :=
  ⟨rfl, rfl, rfl⟩

theorem test_decode_sbc :
    decode [0xE1, 0x3C] = .ok (.sbcIndx 0x3C, []) ∧
    decode [0xE5, 0x3C] = .ok (.sbcZp 0x3C, []) ∧
    decode [0xE9, 0x3C] = .ok (.sbcImm 0x3C, []) ∧
    decode [0xED, 0x34, 0x12] = .ok (.sbcAbs 0x1234, []) ∧
    decode [0xF1, 0x3C] = .ok (.sbcIndy 0x3C, []) ∧
    decode [0xF5, 0x3C] = .ok (.sbcZpx 0x3C, []) ∧
    decode [0xF9, 0x34, 0x12] = .ok (.sbcAbsy 0x1234, []) ∧
    decode [0xFD, 0x34, 0x12] = .ok (.sbcAbsx 0x1234, []) :=
  ⟨rfl, rfl, rfl, rfl, rfl, rfl, rfl, rfl⟩

theorem test_decode_inc :
    decode [0xE6, 0x3C] = .ok (.incZp 0x3C, []) ∧
    decode [0xEE, 0x34, 0x12] = .ok (.incAbs 0x1234, []) ∧
    decode [0xF6, 0x3C] = .ok (.incZpx 0x3C, []) ∧
    decode [0xFE, 0x34, 0x12] = .ok (.incAbsx 0x1234, []) :=
  ⟨rfl, rfl, rfl, rfl⟩

theorem test_decode_inx :
    decode [0xE8] = .ok (.inx, []) :=
  rfl

theorem test_decode_nop :
    decode [0xEA] = .ok (.nop, []) :=
  rfl

theorem test_decode_beq :
    decode [0xF0, 0x3C] = .ok (.beq 0x3C, []) :=
  rfl

theorem test_decode_sed :
    decode [0xF8] = .ok (.sed, []) :=
  rfl

/-- Illegal bytes of R67 and the byte after them, which they do not take. -/
theorem test_decode_illegal :
    decode [0x02, 0x11] = .ok (.illegal 0x02, [0x11]) ∧
    decode [0x1A] = .ok (.illegal 0x1A, []) ∧
    decode [0x80, 0x10] = .ok (.illegal 0x80, [0x10]) ∧
    decode [0x89, 0x00] = .ok (.illegal 0x89, [0x00]) ∧
    decode [0x9C] = .ok (.illegal 0x9C, []) ∧
    decode [0x9E] = .ok (.illegal 0x9E, []) ∧
    decode [0xEB] = .ok (.illegal 0xEB, []) ∧
    decode [0xFF] = .ok (.illegal 0xFF, []) :=
  ⟨rfl, rfl, rfl, rfl, rfl, rfl, rfl, rfl⟩

/-- A list that ends inside an instruction is refused by name. -/
theorem test_decode_cut_short :
    decode [] = .error .noOpcode ∧ decode [0xA9] = .error (.operandMissing 0xA9) ∧
    decode [0x4C, 0x00] = .error (.operandMissing 0x4C) := ⟨rfl, rfl, rfl⟩

/-- One instruction of each family, its bytes bit by bit. -/
theorem test_decode_bits :
    decode [0b10111101, 0b11111111, 0b00100000] = .ok (.ldaAbsx 0x20FF, []) ∧
    decode [0b11101001, 0b01000010] = .ok (.sbcImm 0x42, []) ∧
    decode [0b01100110, 0b00010000] = .ok (.rorZp 0x10, []) ∧
    decode [0b10010110, 0b11111111] = .ok (.stxZpy 0xFF, []) ∧
    decode [0b10111010] = .ok (.tsx, []) ∧
    decode [0b00100000, 0b00000000, 0b10000000] = .ok (.jsr 0x8000, []) ∧
    decode [0b01101100, 0b11111111, 0b00110000] = .ok (.jmpInd 0x30FF, []) ∧
    decode [0b11010000, 0b11111011] = .ok (.bne 0xFB, []) ∧
    decode [0b00000010] = .ok (.illegal 0x02, []) :=
  ⟨rfl, rfl, rfl, rfl, rfl, rfl, rfl, rfl, rfl⟩

/-- The counting loop of 95_test_vectors.md S8 assembles to `A2 00 E8 E0 05 D0 FB 00`. -/
theorem test_encode_counting_loop :
    encode (.ldxImm 0x00) ++ encode .inx ++ encode (.cpxImm 0x05) ++ encode (.bne 0xFB) ++ encode .brk =
      [0xA2, 0x00, 0xE8, 0xE0, 0x05, 0xD0, 0xFB, 0x00] := rfl

/-- The table's numbering: the first byte holds the lowest bits, absent operand bytes are 0. -/
theorem test_decodeTableWord :
    decodeTableWord 8 0xA9 = some (.ldaImm 0x00) ∧
    decodeTableWord 24 0x20FFBD = some (.ldaAbsx 0x20FF) ∧
    decodeTableWord 8 0x20FFBD = some (.ldaAbsx 0x0000) ∧
    decodeTableWord 8 0x02 = some (.illegal 0x02) := ⟨rfl, rfl, rfl, rfl⟩

/-- The examples of R69. -/
theorem test_assembly :
    (Instr.bne 0xFB).assembly 0x0605 = some "BNE $0602" ∧
    (Instr.ldaImm 0x80).assembly 0x0600 = some "LDA #$80" ∧
    (Instr.jmpInd 0x30FF).assembly 0x0600 = some "JMP ($30FF)" ∧
    (Instr.illegal 0x02).assembly 0x0600 = none := ⟨rfl, rfl, rfl, rfl⟩

/-! ### Steps: vectors of 95_test_vectors.md -/

/-- The default start state of the vectors: A, X, Y and the flags 0, S = 0xFF, PC = 0x0600. -/
def start : State := { State.created with sp := 0xFF, pc := 0x0600 }

/-- Bytes put into memory from an address on. -/
def bytesAt (a : Word) (bytes : List Byte) (s : State) : State :=
  match bytes with
  | [] => s
  | b :: bs => bytesAt (a + 1) bs (s.poke a b)

/-- The instruction's bytes at PC. -/
def running (bytes : List Byte) (s : State) : State := bytesAt s.pc bytes s

/-- Does a step from `s` answer a next state with this property? -/
def steps (s : State) (p : State → Bool) : Bool :=
  match step s with
  | .next t => p t
  | .fault _ => false
  | .refused _ => false

/-- The flags whose packed byte (B position 1) the vectors print. -/
def flagsOf (p : Byte) : Flags := Flags.unpackP p

/-- VA3: LDA $F0,X. -/
theorem test_lda_zpx_wraps :
    steps
      (running [0xB5, 0xF0]
        (bytesAt 0x0110 [0x99] (bytesAt 0x0010 [0x42]
        { start with x := 0x20 })))
      (fun t => t.a == 0x42 && t.cycles == 4) = true := by
  decide

/-- VA4: LDX $10,Y. -/
theorem test_ldx_zpy_wraps :
    steps
      (running [0xB6, 0x10]
        (bytesAt 0x0105 [0x99] (bytesAt 0x0005 [0x42]
        { start with y := 0xF5 })))
      (fun t => t.x == 0x42 && t.cycles == 4) = true := by
  decide

/-- VA7: LDA $20FF,X. -/
theorem test_lda_absx_crosses :
    steps (running [0xBD, 0xFF, 0x20] (bytesAt 0x2100 [0x42] { start with x := 0x01 }))
      (fun t => t.a == 0x42 && t.cycles == 5) = true := by
  decide

/-- VA8: LDA $20FF,Y. -/
theorem test_lda_absy_crosses :
    steps (running [0xB9, 0xFF, 0x20] (bytesAt 0x21FE [0x42] { start with y := 0xFF }))
      (fun t => t.a == 0x42 && t.cycles == 5) = true := by
  decide

/-- VA11: LDA ($FE,X. -/
theorem test_lda_indx_pointer_wraps :
    steps
      (running [0xA1, 0xFE]
        (bytesAt 0x1234 [0x42] (bytesAt 0x00FF [0x34, 0x99] (bytesAt 0x0000 [0x12]
        { start with x := 0x01 }))))
      (fun t => t.a == 0x42 && t.cycles == 6) = true := by
  decide

/-- VA15: LDA ($FF),Y. -/
theorem test_lda_indy_pointer_wraps :
    steps
      (running [0xB1, 0xFF]
        (bytesAt 0x1234 [0x42] (bytesAt 0x00FF [0x33, 0x99] (bytesAt 0x0000 [0x12]
        { start with y := 0x01 }))))
      (fun t => t.a == 0x42 && t.cycles == 5) = true := by
  decide

/-- VA17: STA $20FF,X. -/
theorem test_sta_absx :
    steps (running [0x9D, 0xFF, 0x20] { start with a := 0x42, x := 0x01 })
      (fun t => t.peek 0x2100 == 0x42 && t.cycles == 5) = true := by
  decide

/-- VA19: STA ($20),Y. -/
theorem test_sta_indy :
    steps (running [0x91, 0x20] (bytesAt 0x0020 [0xF8, 0x12] { start with a := 0x42, y := 0x10 }))
      (fun t => t.peek 0x1308 == 0x42 && t.cycles == 6) = true := by
  decide

/-- VA21: INC $20FF,X. -/
theorem test_inc_absx :
    steps (running [0xFE, 0xFF, 0x20] (bytesAt 0x2100 [0x41] { start with x := 0x01 }))
      (fun t => t.peek 0x2100 == 0x42 && t.cycles == 7) = true := by
  decide

/-- VA22: LDA #$42. -/
theorem test_lda_imm_at_top_of_memory :
    steps (running [0xA9] (bytesAt 0x0000 [0x42] { start with pc := 0xFFFF }))
      (fun t => t.a == 0x42 && t.pc == 0x0001 && t.cycles == 2) = true := by
  decide

/-- VB1: LDA #$00. -/
theorem test_lda_imm_zero :
    steps (running [0xA9, 0x00] { start with a := 0x55, flags := flagsOf 0xB0 })
      (fun t => t.a == 0x00 && t.flags == flagsOf 0x32 && t.cycles == 2) = true := by
  decide

/-- VB5: LDY $1234. -/
theorem test_ldy_abs_zero :
    steps (running [0xAC, 0x34, 0x12] (bytesAt 0x1234 [0x00] { start with y := 0x09 }))
      (fun t => t.y == 0x00 && t.flags == flagsOf 0x32 && t.cycles == 4) = true := by
  decide

/-- VB7: ORA $10. -/
theorem test_ora_zp :
    steps (running [0x05, 0x10] (bytesAt 0x0010 [0x82] { start with a := 0x41 }))
      (fun t => t.a == 0xC3 && t.flags == flagsOf 0xB0 && t.cycles == 3) = true := by
  decide

/-- VB9: AND #$0F. -/
theorem test_and_imm :
    steps (running [0x29, 0x0F] { start with a := 0xF0 })
      (fun t => t.a == 0x00 && t.flags == flagsOf 0x32 && t.cycles == 2) = true := by
  decide

/-- VB10: EOR #$FF. -/
theorem test_eor_imm :
    steps (running [0x49, 0xFF] { start with a := 0x0F })
      (fun t => t.a == 0xF0 && t.flags == flagsOf 0xB0 && t.cycles == 2) = true := by
  decide

/-- VB13: CMP #$20. -/
theorem test_cmp_imm_borrow :
    steps (running [0xC9, 0x20] { start with a := 0x10 })
      (fun t => t.flags == flagsOf 0xB0 && t.cycles == 2) = true := by
  decide

/-- VB17: CPX $10. -/
theorem test_cpx_zp :
    steps (running [0xE4, 0x10] (bytesAt 0x0010 [0x3F] { start with x := 0x40 }))
      (fun t => t.flags == flagsOf 0x31 && t.cycles == 3) = true := by
  decide

/-- VB18: CPY #$80. -/
theorem test_cpy_imm :
    steps (running [0xC0, 0x80] { start with y := 0x7F, flags := flagsOf 0x70 })
      (fun t => t.flags == flagsOf 0xF0 && t.cycles == 2) = true := by
  decide

/-- VB19: BIT $10. -/
theorem test_bit_zp :
    steps (running [0x24, 0x10] (bytesAt 0x0010 [0xC0] { start with a := 0x01 }))
      (fun t => t.flags == flagsOf 0xF2 && t.cycles == 3) = true := by
  decide

/-- VB21: BIT $1234. -/
theorem test_bit_abs :
    steps
      (running [0x2C, 0x34, 0x12]
        (bytesAt 0x1234 [0x40]
        { start with flags := flagsOf 0x31 }))
      (fun t => t.flags == flagsOf 0x73 && t.cycles == 4) = true := by
  decide

/-- VC4: ADC #$01. -/
theorem test_adc_imm_overflow :
    steps (running [0x69, 0x01] { start with a := 0x7F })
      (fun t => t.a == 0x80 && t.flags == flagsOf 0xF0 && t.cycles == 2) = true := by
  decide

/-- VC21: ADC $20FF,X. -/
theorem test_adc_absx_carry :
    steps
      (running [0x7D, 0xFF, 0x20]
        (bytesAt 0x2100 [0x01]
        { start with a := 0x01, x := 0x01, flags := flagsOf 0x31 }))
      (fun t => t.a == 0x03 && t.flags == flagsOf 0x30 && t.cycles == 5) = true := by
  decide

/-- VD1: ADC #$46. -/
theorem test_adc_decimal :
    steps (running [0x69, 0x46] { start with a := 0x58, flags := flagsOf 0x39 })
      (fun t => t.a == 0x05 && t.flags == flagsOf 0xF9 && t.cycles == 2) = true := by
  decide

/-- VC13: SBC #$01. -/
theorem test_sbc_imm_overflow :
    steps (running [0xE9, 0x01] { start with a := 0x80, flags := flagsOf 0x31 })
      (fun t => t.a == 0x7F && t.flags == flagsOf 0x71 && t.cycles == 2) = true := by
  decide

/-- VD18: SBC #$01. -/
theorem test_sbc_decimal_borrow :
    steps (running [0xE9, 0x01] { start with flags := flagsOf 0x39 })
      (fun t => t.a == 0x99 && t.flags == flagsOf 0xB8 && t.cycles == 2) = true := by
  decide

/-- VE1: INC $10. -/
theorem test_inc_zp_wraps :
    steps (running [0xE6, 0x10] (bytesAt 0x0010 [0xFF] { start with flags := flagsOf 0x31 }))
      (fun t => t.flags == flagsOf 0x33 && t.peek 0x0010 == 0x00 && t.cycles == 5) = true := by
  decide

/-- VE3: DEC $10. -/
theorem test_dec_zp_wraps :
    steps (running [0xC6, 0x10] (bytesAt 0x0010 [0x00] start))
      (fun t => t.flags == flagsOf 0xB0 && t.peek 0x0010 == 0xFF && t.cycles == 5) = true := by
  decide

/-- VE7: ASL $10,X. -/
theorem test_asl_zpx :
    steps (running [0x16, 0x10] (bytesAt 0x0008 [0xFF] { start with x := 0xF8 }))
      (fun t => t.flags == flagsOf 0xB1 && t.peek 0x0008 == 0xFE && t.cycles == 6) = true := by
  decide

/-- VE8: LSR A. -/
theorem test_lsr_acc :
    steps (running [0x4A] { start with a := 0x01, flags := flagsOf 0xB0 })
      (fun t => t.a == 0x00 && t.flags == flagsOf 0x33 && t.cycles == 2) = true := by
  decide

/-- VE12: ROL $1234. -/
theorem test_rol_abs :
    steps
      (running [0x2E, 0x34, 0x12]
        (bytesAt 0x1234 [0x55]
        { start with flags := flagsOf 0x31 }))
      (fun t => t.flags == flagsOf 0xB0 && t.peek 0x1234 == 0xAB && t.cycles == 6) = true := by
  decide

/-- VE14: ROR A. -/
theorem test_ror_acc :
    steps (running [0x6A] { start with flags := flagsOf 0x31 })
      (fun t => t.a == 0x80 && t.flags == flagsOf 0xB0 && t.cycles == 2) = true := by
  decide

/-- VE15: ROR $2000,X. -/
theorem test_ror_absx :
    steps
      (running [0x7E, 0x00, 0x20]
        (bytesAt 0x2005 [0xAA]
        { start with x := 0x05, flags := flagsOf 0x31 }))
      (fun t => t.flags == flagsOf 0xB0 && t.peek 0x2005 == 0xD5 && t.cycles == 7) = true := by
  decide

/-- VF6: STX $FF,Y. -/
theorem test_stx_zpy_wraps :
    steps (running [0x96, 0xFF] { start with x := 0x07, y := 0x01 })
      (fun t => t.peek 0x0000 == 0x07 && t.cycles == 4) = true := by
  decide

/-- VF8: STY $10,X. -/
theorem test_sty_zpx :
    steps (running [0x94, 0x10] { start with x := 0x05, y := 0x42 })
      (fun t => t.peek 0x0015 == 0x42 && t.cycles == 4) = true := by
  decide

/-- VF9: STA $0601. -/
theorem test_sta_abs_over_own_operand :
    steps (running [0x8D, 0x01, 0x06] { start with a := 0xEA })
      (fun t => t.peek 0x0601 == 0xEA && t.cycles == 4) = true := by
  decide

/-- VG1: CLC. -/
theorem test_clc :
    steps (running [0x18] { start with flags := flagsOf 0xB3 })
      (fun t => t.flags == flagsOf 0xB2 && t.cycles == 2) = true := by
  decide

/-- VG2: SEC. -/
theorem test_sec :
    steps (running [0x38] start)
      (fun t => t.flags == flagsOf 0x31 && t.cycles == 2) = true := by
  decide

/-- VG3: CLD. -/
theorem test_cld :
    steps (running [0xD8] { start with flags := flagsOf 0x38 })
      (fun t => t.flags == flagsOf 0x30 && t.cycles == 2) = true := by
  decide

/-- VG4: SED. -/
theorem test_sed :
    steps (running [0xF8] start)
      (fun t => t.flags == flagsOf 0x38 && t.cycles == 2) = true := by
  decide

/-- VG5: CLI. -/
theorem test_cli :
    steps (running [0x58] { start with flags := flagsOf 0x34 })
      (fun t => t.flags == flagsOf 0x30 && t.cycles == 2) = true := by
  decide

/-- VG6: SEI. -/
theorem test_sei :
    steps (running [0x78] start)
      (fun t => t.flags == flagsOf 0x34 && t.cycles == 2) = true := by
  decide

/-- VG7: CLV. -/
theorem test_clv :
    steps (running [0xB8] { start with flags := flagsOf 0x71 })
      (fun t => t.flags == flagsOf 0x31 && t.cycles == 2) = true := by
  decide

/-- VG8: NOP. -/
theorem test_nop :
    steps (running [0xEA] { start with a := 0x01, x := 0x02, y := 0x03, flags := flagsOf 0xB1 })
      (fun t => t.flags == flagsOf 0xB1 && t.cycles == 2) = true := by
  decide

/-- VG9: INX. -/
theorem test_inx_wraps :
    steps (running [0xE8] { start with x := 0xFF })
      (fun t => t.x == 0x00 && t.flags == flagsOf 0x32 && t.cycles == 2) = true := by
  decide

/-- VG11: INY. -/
theorem test_iny :
    steps (running [0xC8] start)
      (fun t => t.y == 0x01 && t.cycles == 2) = true := by
  decide

/-- VG12: DEX. -/
theorem test_dex_wraps :
    steps (running [0xCA] start)
      (fun t => t.x == 0xFF && t.flags == flagsOf 0xB0 && t.cycles == 2) = true := by
  decide

/-- VG14: DEY. -/
theorem test_dey :
    steps (running [0x88] { start with y := 0x80 })
      (fun t => t.y == 0x7F && t.cycles == 2) = true := by
  decide

/-- VG15: TAX. -/
theorem test_tax :
    steps (running [0xAA] { start with a := 0x80, x := 0x01 })
      (fun t => t.x == 0x80 && t.flags == flagsOf 0xB0 && t.cycles == 2) = true := by
  decide

/-- VG16: TAY. -/
theorem test_tay :
    steps (running [0xA8] { start with y := 0x01, flags := flagsOf 0xB0 })
      (fun t => t.y == 0x00 && t.flags == flagsOf 0x32 && t.cycles == 2) = true := by
  decide

/-- VG17: TSX. -/
theorem test_tsx :
    steps (running [0xBA] { start with x := 0x05, sp := 0x00 })
      (fun t => t.x == 0x00 && t.flags == flagsOf 0x32 && t.cycles == 2) = true := by
  decide

/-- VG18: TXA. -/
theorem test_txa :
    steps (running [0x8A] { start with a := 0x80, x := 0x7F, flags := flagsOf 0xB0 })
      (fun t => t.a == 0x7F && t.flags == flagsOf 0x30 && t.cycles == 2) = true := by
  decide

/-- VG19: TXS. -/
theorem test_txs_no_flags :
    steps (running [0x9A] { start with sp := 0x80, flags := flagsOf 0xB0 })
      (fun t => t.sp == 0x00 && t.flags == flagsOf 0xB0 && t.cycles == 2) = true := by
  decide

/-- VG21: TYA. -/
theorem test_tya :
    steps (running [0x98] { start with y := 0xFF })
      (fun t => t.a == 0xFF && t.flags == flagsOf 0xB0 && t.cycles == 2) = true := by
  decide

/-- VH2: PHA. -/
theorem test_pha_stack_wraps :
    steps (running [0x48] { start with a := 0x42, sp := 0x00 })
      (fun t => t.sp == 0xFF && t.peek 0x0100 == 0x42 && t.cycles == 3) = true := by
  decide

/-- VH4: PHP. -/
theorem test_php :
    steps
      (running [0x08]
        { start with flags := flagsOf 0xFF })
      (fun t => t.sp == 0xFE && t.flags == flagsOf 0xFF && t.peek 0x01FF == 0xFF && t.cycles == 3) = true := by
  decide

/-- VH6: PLA. -/
theorem test_pla_stack_wraps :
    steps
      (running [0x68]
        (bytesAt 0x0100 [0x00]
        { start with a := 0x07 }))
      (fun t => t.a == 0x00 && t.sp == 0x00 && t.flags == flagsOf 0x32 && t.cycles == 4) = true := by
  decide

/-- VH8: PLP. -/
theorem test_plp :
    steps (running [0x28] (bytesAt 0x01FF [0xFF] { start with sp := 0xFE }))
      (fun t => t.sp == 0xFF && t.flags == flagsOf 0xFF && t.cycles == 4) = true := by
  decide

/-- VH11: JSR $1234. -/
theorem test_jsr_stack_wraps :
    steps (running [0x20, 0x34, 0x12] { start with sp := 0x00 })
      (fun t => t.sp == 0xFE && t.pc == 0x1234 && t.peek 0x0100 == 0x06 &&
        t.peek 0x01FF == 0x02 && t.cycles == 6) = true := by
  decide

/-- VH14: RTS. -/
theorem test_rts_wraps :
    steps (running [0x60] (bytesAt 0x01FE [0xFF, 0xFF] { start with sp := 0xFD, pc := 0x1234 }))
      (fun t => t.sp == 0xFF && t.pc == 0x0000 && t.cycles == 6) = true := by
  decide

/-- VH15: BRK. -/
theorem test_brk :
    steps
      (running [0x00]
        (bytesAt 0xFFFE [0x00, 0x80]
        { start with pc := 0x0607, flags := flagsOf 0x33 }))
      (fun t => t.sp == 0xFC && t.pc == 0x8000 && t.flags == flagsOf 0x37 &&
        t.peek 0x01FD == 0x33 && t.peek 0x01FE == 0x09 && t.peek 0x01FF == 0x06 && t.cycles == 7) = true := by
  decide

/-- VH18: RTI. -/
theorem test_rti :
    steps
      (running [0x40]
        (bytesAt 0x01FD [0xCF, 0x00, 0x10]
        { start with sp := 0xFC, pc := 0x8000, flags := flagsOf 0x34 }))
      (fun t => t.sp == 0xFF && t.pc == 0x1000 && t.flags == flagsOf 0xFF && t.cycles == 6) = true := by
  decide

/-- VI1: JMP $1234. -/
theorem test_jmp_abs :
    steps (running [0x4C, 0x34, 0x12] start)
      (fun t => t.pc == 0x1234 && t.cycles == 3) = true := by
  decide

/-- VI4: JMP ($30FF. -/
theorem test_jmp_ind_page_wrap :
    steps (running [0x6C, 0xFF, 0x30] (bytesAt 0x30FF [0x80, 0x40] (bytesAt 0x3000 [0x50] start)))
      (fun t => t.pc == 0x5080 && t.cycles == 5) = true := by
  decide

/-- VI5: BPL +4. -/
theorem test_bpl_taken :
    steps (running [0x10, 0x04] start)
      (fun t => t.pc == 0x0606 && t.cycles == 3) = true := by
  decide

/-- VI6: BPL +4. -/
theorem test_bpl_not_taken :
    steps (running [0x10, 0x04] { start with flags := flagsOf 0xB0 })
      (fun t => t.pc == 0x0602 && t.cycles == 2) = true := by
  decide

/-- VI7: BMI +4. -/
theorem test_bmi_taken :
    steps (running [0x30, 0x04] { start with flags := flagsOf 0xB0 })
      (fun t => t.pc == 0x0606 && t.cycles == 3) = true := by
  decide

/-- VI9: BVC -128. -/
theorem test_bvc_back_across_page :
    steps (running [0x50, 0x80] start)
      (fun t => t.pc == 0x0582 && t.cycles == 4) = true := by
  decide

/-- VI11: BVS +0. -/
theorem test_bvs_taken :
    steps (running [0x70, 0x00] { start with pc := 0x06FE, flags := flagsOf 0x70 })
      (fun t => t.cycles == 3) = true := by
  decide

/-- VI13: BCC +2. -/
theorem test_bcc_taken :
    steps (running [0x90, 0x02] start)
      (fun t => t.pc == 0x0604 && t.cycles == 3) = true := by
  decide

/-- VI15: BCS -2. -/
theorem test_bcs_to_itself :
    steps (running [0xB0, 0xFE] { start with flags := flagsOf 0x31 })
      (fun t => t.pc == 0x0600 && t.cycles == 3) = true := by
  decide

/-- VI17: BNE -5. -/
theorem test_bne_back :
    steps (running [0xD0, 0xFB] { start with pc := 0x0605 })
      (fun t => t.pc == 0x0602 && t.cycles == 3) = true := by
  decide

/-- VI21: BNE +4. -/
theorem test_bne_wraps :
    steps (running [0xD0, 0x04] { start with pc := 0xFFFC })
      (fun t => t.pc == 0x0002 && t.cycles == 4) = true := by
  decide

/-- VI19: BEQ +127. -/
theorem test_beq_across_page :
    steps (running [0xF0, 0x7F] { start with pc := 0x06F0, flags := flagsOf 0x32 })
      (fun t => t.pc == 0x0771 && t.cycles == 4) = true := by
  decide

/-- VK1: IRQ, I=0. -/
theorem test_irq :
    steps
      (running [0xEA]
        (bytesAt 0xFFFE [0x00, 0x90] (bytesAt 0xFFFA [0x00, 0xA0]
        { start with pc := 0x0602, flags := flagsOf 0x33, irqLine := true })))
      (fun t => t.sp == 0xFC && t.pc == 0x9000 && t.flags == flagsOf 0x37 &&
        t.peek 0x01FD == 0x23 && t.peek 0x01FE == 0x02 && t.peek 0x01FF == 0x06 && t.cycles == 7) = true := by
  decide

/-- VK2: IRQ, I=1. -/
theorem test_irq_masked :
    steps
      (running [0xEA]
        (bytesAt 0xFFFE [0x00, 0x90] (bytesAt 0xFFFA [0x00, 0xA0]
        { start with pc := 0x0602, flags := flagsOf 0x34, irqLine := true })))
      (fun t => t.cycles == 2) = true := by
  decide

/-- VK3: NMI, I=1. -/
theorem test_nmi_with_i :
    steps
      (running [0xEA]
        (bytesAt 0xFFFE [0x00, 0x90] (bytesAt 0xFFFA [0x00, 0xA0]
        { start with pc := 0x0602, flags := flagsOf 0xB4, nmiPending := true })))
      (fun t => t.sp == 0xFC && t.pc == 0xA000 && t.peek 0x01FD == 0xA4 &&
        t.peek 0x01FE == 0x02 && t.peek 0x01FF == 0x06 && t.cycles == 7) = true := by
  decide

/-- VK4: NMI and IRQ. -/
theorem test_nmi_before_irq :
    steps
      (running [0xEA]
        (bytesAt 0xFFFE [0x00, 0x90] (bytesAt 0xFFFA [0x00, 0xA0]
        { start with pc := 0x0602, irqLine := true, nmiPending := true })))
      (fun t => t.sp == 0xFC && t.pc == 0xA000 && t.flags == flagsOf 0x34 &&
        t.peek 0x01FD == 0x20 && t.peek 0x01FE == 0x02 && t.peek 0x01FF == 0x06 && t.cycles == 7) = true := by
  decide

/-- VK5: IRQ, D=1, S=01. -/
theorem test_irq_stack_wraps :
    steps
      (running [0xEA]
        (bytesAt 0xFFFE [0x00, 0x90] (bytesAt 0xFFFA [0x00, 0xA0]
        { start with sp := 0x01, pc := 0x12FF, flags := flagsOf 0x38, irqLine := true })))
      (fun t => t.sp == 0xFE && t.pc == 0x9000 && t.flags == flagsOf 0x3C &&
        t.peek 0x0100 == 0xFF && t.peek 0x0101 == 0x12 && t.peek 0x01FF == 0x28 && t.cycles == 7) = true := by
  decide

/-- VJ1: the illegal byte 0x02 takes no operand byte and changes nothing but PC and one tick. -/
theorem test_illegal_02 :
    (match step (running [0x02, 0x11, 0x22] { start with a := 0x11, flags := flagsOf 0xB1 }) with
      | .fault (.illegalOpcode op t) =>
        op == 0x02 && t.pc == 0x0601 && t.cycles == 1 && t.a == 0x11 && t.flags == flagsOf 0xB1
      | _ => false) = true := by
  decide

/-- VI4: the five transactions of `JMP ($30FF)` in order (newest first in the record). -/
theorem test_jmp_ind_transactions :
    steps (running [0x6C, 0xFF, 0x30] (bytesAt 0x3000 [0x50] (bytesAt 0x30FF [0x80, 0x40] start)))
      (fun t => t.bus ==
        [readOf 0x3000 0x50, readOf 0x30FF 0x80, readOf 0x0602 0x30, readOf 0x0601 0xFF,
          readOf 0x0600 0x6C]) = true := by
  decide

/-- 95_test_vectors.md S10: RESET with [FFFC] = 00, [FFFD] = 04 from S = 12: PC = 0400, I = 1, 7 ticks,
S unchanged. -/
theorem test_reset_operation :
    let s := (bytesAt 0xFFFC [0x00, 0x04] { start with sp := 0x12 }).resetOp
    s.pc = 0x0400 ∧ s.flags = flagsOf 0x34 ∧ s.cycles = 7 ∧ s.sp = 0x12 := by
  decide

/-- The host's placing of a word: from State.reset the next step runs it (LDA #$80, LDX $20FF,Y). -/
theorem test_withFetchWord :
    steps (State.reset.withFetchWord 16 0x80A9) (fun t => t.a == 0x80 && t.pc == 0x0002) = true ∧
    steps (State.reset.withFetchWord 24 0x20FFBE) (fun t => t.pc == 0x0003 && t.cycles == 11) = true ∧
    steps (State.reset.withFetchWord 8 0xBE) (fun t => t.pc == 0x0003 && t.x == 0xBE) = true := by
  decide

/-- A device at 0xD012: reading it answers the free value, storing there leaves memory alone. -/
theorem test_device_window :
    let s := { start with a := 0x42, deviceWindows := [{ first := 0xD000, last := 0xD0FF }] }
    (∃ t, exec (.ldaAbs 0xD012) s = .next t ∧ t.a = Config.deviceAnswer [] 0xD012) ∧
    ∃ t, exec (.staAbs 0xD012) s = .next t ∧ t.mem = s.mem ∧ t.bus = [writeOf 0xD012 0x42] :=
  ⟨⟨_, rfl, rfl⟩, _, rfl, rfl, rfl⟩

/-! ### Witnesses: what meets the hypotheses of each obligation -/

/-- A device over 0xD000 to 0xD0FF, nothing else out of the ordinary. -/
def withDevice : State := { start with deviceWindows := [{ first := 0xD000, last := 0xD0FF }] }

/-- O4: plain memory at the stack address, at both ends of page 1, beside a device elsewhere. -/
theorem test_witness_PhaPlaRoundTrip :
    (withDevice.mem.wf = true ∧ withDevice.inDevice (0x0100 + withDevice.sp.setWidth 16) = false) ∧
    let s := { withDevice with sp := 0x00 }
    s.mem.wf = true ∧ s.inDevice (0x0100 + s.sp.setWidth 16) = false := by
  decide

/-- O5: two well-formed memories that read the same, made in two orders, the top address among
them. -/
theorem test_witness_EqualReadsEqualMemories :
    let m := (Memory.write [] 0x0010 0x42).write 0xFFFF 0x01
    let k := (Memory.write [] 0xFFFF 0x01).write 0x0010 0x42
    m.wf = true ∧ k.wf = true ∧ ∀ a : Nat, m.read a = k.read a :=
  ⟨by decide, by decide, fun _ => rfl⟩

/-- O23, O24: valid decimal operands, the largest and the smallest among them. -/
theorem test_witness_decimal_operands :
    let valid := fun b : Byte => b.toNat % 16 < 10 ∧ b.toNat / 16 < 10
    valid 0x58 ∧ valid 0x46 ∧ valid 0x99 ∧ valid 0x00 := by
  decide

/-- O36: plain memory at both bytes of the return address, where S wraps too, and a later state as the
statement asks for (the callee's entry state itself). -/
theorem test_witness_JsrRtsRoundTrip :
    let s := { withDevice with sp := 0x00 }
    s.mem.wf = true ∧ s.inDevice (0x0100 + s.sp.setWidth 16) = false ∧
    s.inDevice (0x0100 + (s.sp - 1).setWidth 16) = false ∧
    ∃ t, exec (.jsr 0x1234) s = .next t ∧ t.sp = 0xFE ∧ t.deviceWindows = s.deviceWindows :=
  ⟨by decide, by decide, by decide, _, rfl, by decide, rfl⟩

/-- O39: plain memory at the three stack bytes, where S wraps too. -/
theorem test_witness_HandlerReturnResumes :
    let s := { withDevice with sp := 0x01 }
    s.mem.wf = true ∧ s.inDevice (0x0100 + s.sp.setWidth 16) = false ∧
    s.inDevice (0x0100 + (s.sp - 1).setWidth 16) = false ∧
    s.inDevice (0x0100 + (s.sp - 2).setWidth 16) = false := by
  decide

/-- O42: no interrupt to take and an illegal byte at PC: the first and the last of the list, and PC at
the top of memory. -/
theorem test_witness_IllegalOpcodeFault :
    let at_ := fun (pc : Word) (b : Byte) => bytesAt pc [b] { start with pc := pc }
    ((at_ 0x0600 0x02).poll = .instruction ∧
      (at_ 0x0600 0x02).busAnswer (at_ 0x0600 0x02).pc ∈ illegalOpcodes) ∧
    (at_ 0xFFFF 0xFF).poll = .instruction ∧
      (at_ 0xFFFF 0xFF).busAnswer (at_ 0xFFFF 0xFF).pc ∈ illegalOpcodes := by
  decide

/-- O44: both clauses; the first also with I set and the IRQ line asserted. -/
theorem test_witness_InterruptEntryResult :
    ({ start with nmiPending := true, irqLine := true, flags := flagsOf 0x34 } : State).nmiPending = true ∧
    let s : State := { start with irqLine := true }
    s.nmiPending = false ∧ s.irqLine = true ∧ s.flags.i = false := by
  decide

/-- O45, O51: an instruction of each length about to run, with the IRQ line low, with the line high
and I set, and at the top of memory; its bytes decode and have base cycles. -/
theorem test_witness_StepRunsDecodedInstruction :
    let one := running [0xE8] start
    let two := running [0xD0, 0x04] { start with irqLine := true, flags := flagsOf 0x34, pc := 0xFFFE }
    let three := running [0xBD, 0xFF, 0x20] { start with x := 0x01 }
    (one.poll = .instruction ∧ decode (one.fetchBytes 3).1 = .ok (.inx, [0x00, 0x00]) ∧
      Instr.inx.baseCycles = some 2) ∧
    (two.nmiPending = false ∧ two.flags.i = true ∧ two.poll = .instruction ∧
      decode (two.fetchBytes 3).1 = .ok (.bne 0x04, [0x00]) ∧
      (Instr.bne 0x04).baseCycles = some 2 ∧ penalty (.bne 0x04) (two.fetchBytes 2).2 = 1) ∧
    (three.poll = .instruction ∧ decode (three.fetchBytes 3).1 = .ok (.ldaAbsx 0x20FF, []) ∧
      (Instr.ldaAbsx 0x20FF).baseCycles = some 4 ∧ penalty (.ldaAbsx 0x20FF) (three.fetchBytes 3).2 = 1) :=
  ⟨⟨rfl, rfl, rfl⟩, ⟨rfl, rfl, rfl, rfl, rfl, rfl⟩, rfl, rfl, rfl, rfl⟩

/-- O45: an illegal byte about to run, and plain memory at the fetched addresses beside a device. -/
theorem test_witness_StepRunsIllegal :
    let s := running [0x02] withDevice
    s.nmiPending = false ∧ s.irqLine = false ∧
    decode (s.fetchBytes 3).1 = .ok (.illegal 0x02, [0x00, 0x00]) ∧
    s.inDevice s.pc = false ∧ s.inDevice (s.pc + 1) = false ∧ s.inDevice (s.pc + 2) = false :=
  ⟨rfl, rfl, rfl, rfl, rfl, rfl⟩

/-- O47: well-formed instructions of each format, and the ends of the list of illegal bytes. -/
theorem test_witness_DecodeEncodeRoundTrip :
    Instr.inx.wf = true ∧ (Instr.ldaImm 0xFF).wf = true ∧ (Instr.jsr 0xFFFF).wf = true ∧
    (Instr.illegal 0x02).wf = true ∧ (Instr.illegal 0xFF).wf = true := by
  decide

/-- O48: bytes that decode, with bytes left over and with none. -/
theorem test_witness_DecodedBytesEncodeBack :
    decode [0xA9, 0xFF, 0x02] = .ok (.ldaImm 0xFF, [0x02]) ∧
    decode [0x20, 0xFF, 0xFF] = .ok (.jsr 0xFFFF, []) ∧
    decode [0x02] = .ok (.illegal 0x02, []) := ⟨rfl, rfl, rfl⟩

/-- O50, O52: a state that meets the invariant and steps to a next state, and one that steps to the
fault. -/
theorem test_witness_StepKeepsInvariant :
    ((running [0x48] State.reset).Inv ∧ steps (running [0x48] State.reset) (fun _ => true) = true) ∧
    (running [0x02] State.reset).Inv ∧
    ∃ left, step (running [0x02] State.reset) = .fault (.illegalOpcode 0x02 left) :=
  ⟨⟨by decide, by decide⟩, by decide, _, rfl⟩

/-- O53: a state and instructions that change A, X, Y, S and PC. -/
theorem test_witness_RegisterWriters :
    let s := bytesAt 0x0010 [0x07] { start with x := 0x01 }
    (∃ t, exec (.ldaImm 0x42) s = .next t ∧ t.a ≠ s.a) ∧ (∃ t, exec .txa s = .next t ∧ t.a ≠ s.a) ∧
    (∃ t, exec .lsrAcc { s with a := 0x80 } = .next t ∧ t.a ≠ 0x80) ∧
    (∃ t, exec .inx s = .next t ∧ t.x ≠ s.x) ∧ (∃ t, exec (.ldyZp 0x10) s = .next t ∧ t.y ≠ s.y) ∧
    (∃ t, exec .txs s = .next t ∧ t.sp ≠ s.sp) ∧ (∃ t, exec .pha s = .next t ∧ t.sp ≠ s.sp) ∧
    (∃ t, exec (.jmpAbs 0x1234) s = .next t ∧ t.pc ≠ s.pc) ∧
    ∃ t, exec (.bne 0x80) s = .next t ∧ t.pc ≠ s.pc :=
  ⟨⟨_, rfl, by decide⟩, ⟨_, rfl, by decide⟩, ⟨_, rfl, by decide⟩, ⟨_, rfl, by decide⟩,
    ⟨_, rfl, by decide⟩, ⟨_, rfl, by decide⟩, ⟨_, rfl, by decide⟩, ⟨_, rfl, by decide⟩,
    _, rfl, by decide⟩

/-- O54: instructions that change each flag. -/
theorem test_witness_FlagWriters :
    (∃ t, exec (.ldaImm 0x80) start = .next t ∧ t.flags.n ≠ start.flags.n) ∧
    (∃ t, exec .tax start = .next t ∧ t.flags.z ≠ start.flags.z) ∧
    (∃ t, exec (.adcImm 0x7F) { start with a := 0x7F } = .next t ∧ t.flags.v ≠ start.flags.v) ∧
    (∃ t, exec .sed start = .next t ∧ t.flags.d ≠ start.flags.d) ∧
    (∃ t, exec .brk start = .next t ∧ t.flags.i ≠ start.flags.i) ∧
    ∃ t, exec (.cmpImm 0x00) start = .next t ∧ t.flags.c ≠ start.flags.c :=
  ⟨⟨_, rfl, by decide⟩, ⟨_, rfl, by decide⟩, ⟨_, rfl, by decide⟩, ⟨_, rfl, by decide⟩,
    ⟨_, rfl, by decide⟩, _, rfl, by decide⟩

/-- O55: an instruction with both kinds of access, one that writes nothing, and an address beside the
one a store records. -/
theorem test_witness_TransactionCounts :
    ((∃ t, exec .brk start = .next t) ∧ dataAccesses .brk = (2, 3)) ∧
    ((∃ t, exec (.ldaIndx 0x20) start = .next t) ∧ (dataAccesses (.ldaIndx 0x20)).2 = 0) ∧
    ∀ e ∈ [writeOf 0x0010 0x42], e.kind = .write → e.addr.toNat ≠ 0x0011 :=
  ⟨⟨⟨_, rfl⟩, rfl⟩, ⟨⟨_, rfl⟩, rfl⟩, by decide⟩

/-- O56: a step that enters a handler. -/
theorem test_witness_StepOutcomesAndTicks :
    ({ start with nmiPending := true } : State).poll ≠ .instruction ∧
    ({ start with irqLine := true } : State).poll ≠ .instruction := by
  decide

/-- O57: the invariant before a run of turns. -/
theorem test_witness_HostTurnsKeepInvariant :
    State.reset.Inv ∧
    (State.reset.turns [.event (.irqLevel true), .event (.poke 0x0000 0x58), .step, .step]).cycles = 16 := by
  decide

/-- O58: both clauses over turns: the edge sets a clear latch; a step and RESET clear a set one. -/
theorem test_witness_NmiLatch :
    (start.nmiPending = false ∧ (start.turn (.event .nmiEdge)).nmiPending = true) ∧
    let s := { start with nmiPending := true }
    s.nmiPending = true ∧ (s.turn .step).nmiPending = false ∧
      (s.turn (.event .reset)).nmiPending = false := by
  decide

/-- O59: on both sides of 2^64, and at the edge of the premise a step to a next state and one to the
fault. -/
theorem test_witness_CycleCounterView :
    let top := { start with cycles := 2 ^ 64 - 8 }
    (top.cycles < 2 ^ 64 ∧ 2 ^ 64 ≤ (top.tick 8).cycles) ∧
    top.cycles + 7 < 2 ^ 64 ∧ (∃ t, step (running [0xE8] top) = .next t) ∧
    ∃ left, step (running [0x02] top) = .fault (.illegalOpcode 0x02 left) :=
  ⟨by decide, by decide, ⟨_, rfl⟩, _, rfl⟩

/-- O60: instructions that answer a next state, one that crosses a page among them. -/
theorem test_witness_NoInstructionReadsCyclesOrInputs :
    (∃ t, exec .brk start = .next t ∧ cyclesElapsed start t = 6) ∧
    ∃ t, exec (.ldaAbsx 0x20FF) { start with x := 0x01 } = .next t ∧ cyclesElapsed start t = 2 :=
  ⟨⟨_, rfl, rfl⟩, _, rfl, rfl⟩

/-- R244: a fault that the host skips and that leaves the byte 0x00 at PC meets "the byte at PC is 0x00";
one that leaves another byte there does not. -/
theorem test_hostStop_after_fault :
    let stops := fun (h : HostStop) (s : State) => h.holds s (step s)
    stops .brkNext (running [0x02, 0x00] start) = true ∧
    stops .brkNext (running [0x02, 0xEA] start) = false ∧
    stops .brkNext (running [0xEA, 0x00] start) = true ∧
    stops .faulted (running [0x02, 0x00] start) = true ∧
    stops .brkExecuted (running [0x00] start) = true ∧
    stops .trapped (running [0x4C, 0x00, 0x06] start) = true := by
  decide

/-- `Stored` on both sides of a device's edge: below it a store lands, inside it none does. -/
theorem test_witness_Stored :
    withDevice.inDevice 0xCFFF = false ∧ withDevice.inDevice 0xD000 = true ∧
    withDevice.inDevice 0xD0FF = true ∧ withDevice.inDevice 0xD100 = false ∧
    withDevice.mem.wf = true := by
  decide


end Sys2Proof.Tests
end

section
/-!
PROOFS for 00_scope.md (O8, O50). Execution, like each operation it is made of (Laws/Bus.lean), extends
the state by bus transactions and ticks alone; such an extension keeps the invariant (`Extends.inv`).
-/

namespace Sys2Proof.Machine

/-! ### The operations that Laws/Bus.lean does not name -/

theorem Extends.loadA (s : State) (v : Byte) : Extends s (s.loadA v) := .of_same rfl rfl rfl rfl le_rfl

theorem Extends.loadX (s : State) (v : Byte) : Extends s (s.loadX v) := .of_same rfl rfl rfl rfl le_rfl

theorem Extends.loadY (s : State) (v : Byte) : Extends s (s.loadY v) := .of_same rfl rfl rfl rfl le_rfl

/-- ADC changes A and flags alone, in both modes (42_adc_sbc.md R115). -/
theorem Extends.opAdc (v : Byte) (s : State) : Extends s (opAdc v s) := by
  rw [opAdc_state]
  exact .of_same rfl rfl rfl rfl le_rfl

/-- SBC changes A and flags alone, in both modes (42_adc_sbc.md R116). -/
theorem Extends.opSbc (v : Byte) (s : State) : Extends s (opSbc v s) :=
  .of_same rfl rfl rfl rfl le_rfl

theorem Extends.pushAfterTick (s : State) (v : Byte) : Extends s ((s.tick 1).push v) :=
  (Extends.tick s 1).trans (.push _ v)

theorem Extends.pullAfterTicks (s : State) : Extends s (s.tick 2).pull.2 :=
  (Extends.tick s 2).trans (.pull _)

theorem Extends.takeNmi (s : State) : Extends s (takeNmi s) :=
  Extends.trans (t := { s with nmiPending := false }) (.of_same rfl rfl rfl rfl le_rfl)
    (.interruptEntry nmiVector false _)

theorem Extends.takeIrq (s : State) : Extends s (takeIrq s) := .interruptEntry irqVector false s

/-! ### Outcomes -/

/-- The state an outcome leaves, next or faulted, extends `s`; a refusal leaves none. -/
def OutcomeExtends (s : State) : Host.Outcome State Fault Refusal → Prop
  | .next t => Extends s t
  | .fault f => Extends s f.stateLeft
  | .refused _ => True

@[simp] theorem outcomeExtends_next (s t : State) : OutcomeExtends s (.next t) ↔ Extends s t := .rfl

@[simp] theorem outcomeExtends_fault (s : State) (f : Fault) :
    OutcomeExtends s (.fault f) ↔ Extends s f.stateLeft := .rfl

theorem Extends.trans_outcome {s t : State} {o : Host.Outcome State Fault Refusal} (h : Extends s t)
    (ho : OutcomeExtends t o) : OutcomeExtends s o := by
  cases o with
  | next u => exact Extends.trans h ho
  | fault f => exact Extends.trans h ho
  | refused r => trivial

/-- Executing an instruction is made of bus transactions, ticks and changes of registers and flags: one
case for each shape template, the Operations that load a register or set flags taken together. -/
theorem exec_extends (i : Instr) (s : State) : OutcomeExtends s (exec i s) := by
  cases i with
  | ldaImm | oraImm | andImm | eorImm => exact Extends.loadA s _
  | ldxImm => exact Extends.loadX s _
  | ldyImm => exact Extends.loadY s _
  | cmpImm | cpxImm | cpyImm => exact Extends.setFlags s _
  | adcImm d8 => exact Extends.opAdc d8 s
  | sbcImm d8 => exact Extends.opSbc d8 s
  | ldaZp | ldaZpx | ldaAbs | ldaAbsx | ldaAbsy | ldaIndx | ldaIndy
  | oraZp | oraZpx | oraAbs | oraAbsx | oraAbsy | oraIndx | oraIndy
  | andZp | andZpx | andAbs | andAbsx | andAbsy | andIndx | andIndy
  | eorZp | eorZpx | eorAbs | eorAbsx | eorAbsy | eorIndx | eorIndy =>
    exact Extends.readMem _ (fun _ t => .loadA t _) s
  | ldxZp | ldxZpy | ldxAbs | ldxAbsy => exact Extends.readMem _ (fun _ t => .loadX t _) s
  | ldyZp | ldyZpx | ldyAbs | ldyAbsx => exact Extends.readMem _ (fun _ t => .loadY t _) s
  | cmpZp | cmpZpx | cmpAbs | cmpAbsx | cmpAbsy | cmpIndx | cmpIndy
  | cpxZp | cpxAbs | cpyZp | cpyAbs | bitZp | bitAbs =>
    exact Extends.readMem _ (fun _ t => .setFlags t _) s
  | adcZp | adcZpx | adcAbs | adcAbsx | adcAbsy | adcIndx | adcIndy =>
    exact Extends.readMem _ Extends.opAdc s
  | sbcZp | sbcZpx | sbcAbs | sbcAbsx | sbcAbsy | sbcIndx | sbcIndy =>
    exact Extends.readMem _ Extends.opSbc s
  | aslAcc | lsrAcc | rolAcc | rorAcc => exact Extends.rmwAcc _ s
  | incZp | incZpx | incAbs | incAbsx | decZp | decZpx | decAbs | decAbsx
  | aslZp | aslZpx | aslAbs | aslAbsx | lsrZp | lsrZpx | lsrAbs | lsrAbsx
  | rolZp | rolZpx | rolAbs | rolAbsx | rorZp | rorZpx | rorAbs | rorAbsx =>
    exact Extends.rmwMem _ _ s
  | staZp | staZpx | staAbs | staAbsx | staAbsy | staIndx | staIndy
  | stxZp | stxZpy | stxAbs | styZp | styZpx | styAbs => exact Extends.writeMem _ _ s
  | clc | cld | cli | clv | sec | sed | sei => exact Extends.impliedShape (fun t => .setFlags t _) s
  | nop => exact Extends.impliedShape Extends.refl s
  | inx | dex | tax | tsx => exact Extends.impliedShape (fun t => .loadX t _) s
  | iny | dey | tay => exact Extends.impliedShape (fun t => .loadY t _) s
  | txa | tya => exact Extends.impliedShape (fun t => .loadA t _) s
  | txs => exact Extends.impliedShape (fun _ => .of_same rfl rfl rfl rfl le_rfl) s
  | pha | php => exact Extends.pushAfterTick s _
  | pla => exact (Extends.pullAfterTicks s).trans (.loadA _ _)
  | plp => exact (Extends.pullAfterTicks s).trans (.setFlags _ fun _ => _)
  | jsr target => exact Extends.callSubroutine target s
  | rts => exact Extends.returnFromSubroutine s
  | brk => exact Extends.softwareInterrupt s
  | rti => exact (Extends.tick s 2).trans (.returnFromException _)
  | jmpAbs target => exact Extends.setPc s target
  | jmpInd ptr => exact (Extends.targetInd ptr s).trans (.setPc _ _)
  | bpl off | bmi off | bvc off | bvs off | bcc off | bcs off | bne off | beq off =>
    exact Extends.branchShape _ off s
  | illegal => exact Extends.refl s

/-- A step is an interrupt entry, or a fetch and an execution: it extends the state it starts from. -/
theorem step_extends (s : State) : OutcomeExtends s (step s) := by
  obtain ⟨-, h⟩ | ⟨-, -, -, h⟩ | ⟨-, h⟩ := step_cases s
  · rw [h]; exact Extends.takeNmi s
  · rw [h]; exact Extends.takeIrq s
  · rw [h]; exact (Extends.fetchInstr s).trans_outcome (exec_extends _ _)

/-- Settles O50: the state a step leaves extends the one it starts from, which keeps the invariant. -/
theorem stepKeepsInvariant : Obligations.StepKeepsInvariant := by
  intro s hs
  have h := step_extends s
  constructor
  · intro t ht
    rw [ht, outcomeExtends_next] at h
    exact h.inv hs
  · intro f hf
    rw [hf, outcomeExtends_fault] at h
    exact h.inv hs

/-- Settles O8: memory is empty, and the two vector reads on record are among the seven ticks. -/
theorem resetMeetsInvariant : Obligations.ResetMeetsInvariant :=
  ⟨State.reset_wf, by decide⟩

end Sys2Proof.Machine
end

section
/-!
PROOFS for 10_state.md (O1, O2, O3, O7, O53, O54, O57, O58, O59, O60). What execution may do to the
core is said once, as an `Effect`: which registers and flags change, how many ticks pass, and that
neither depends on the cycle count, the NMI latch or the IRQ line. Each shared operation has its rule,
and `exec_effect` puts them together for every instruction.
-/

namespace Sys2Proof.Machine

/-! ### Registers, flags and their writers -/

/-- The registers and flags of 10_state.md R21 to R29. -/
inductive Part where
  | a | x | y | sp | pc | n | v | d | i | z | c
  deriving DecidableEq

/-- The two states agree in this register or flag. -/
def Part.Same : Part → State → State → Prop
  | .a, s, t => t.a = s.a
  | .x, s, t => t.x = s.x
  | .y, s, t => t.y = s.y
  | .sp, s, t => t.sp = s.sp
  | .pc, s, t => t.pc = s.pc
  | .n, s, t => t.flags.n = s.flags.n
  | .v, s, t => t.flags.v = s.flags.v
  | .d, s, t => t.flags.d = s.flags.d
  | .i, s, t => t.flags.i = s.flags.i
  | .z, s, t => t.flags.z = s.flags.z
  | .c, s, t => t.flags.c = s.flags.c

theorem Part.Same.trans {p : Part} {s t u : State} (h : p.Same s t) (k : p.Same t u) :
    p.Same s u := by
  cases p <;> exact Eq.trans k h

/-- The writers of N and Z: the users of SetNZ, BIT, PLP and RTI (10_state.md R29). -/
def nzWriters : List (Option Mnemonic) :=
  [some .lda, some .ldx, some .ldy, some .ora, some .and, some .eor, some .adc, some .sbc, some .cmp,
    some .cpx, some .cpy, some .inc, some .dec, some .asl, some .lsr, some .rol, some .ror, some .inx,
    some .iny, some .dex, some .dey, some .tax, some .tay, some .tsx, some .txa, some .tya, some .pla,
    some .bit, some .plp, some .rti]

/-- The rules let instructions of this mnemonic and mode write this register (R21 to R24, R28) or flag
(R29). -/
def Part.writtenBy (m : Option Mnemonic) (mode : Option Mode) : Part → Bool
  | .a => decide (m ∈ [some .lda, some .ora, some .and, some .eor, some .adc, some .sbc, some .pla,
      some .txa, some .tya] ∨ mode = some .acc)
  | .x => decide (m ∈ [some .ldx, some .tax, some .tsx, some .inx, some .dex])
  | .y => decide (m ∈ [some .ldy, some .tay, some .iny, some .dey])
  | .sp => decide (m = some .txs ∨ m.map Mnemonic.shape = some .stack)
  | .pc => decide (m ∈ [some .jmp, some .jsr, some .rts, some .rti, some .brk] ∨
      m.map Mnemonic.shape = some .branch)
  | .n => decide (m ∈ nzWriters)
  | .z => decide (m ∈ nzWriters)
  | .v => decide (m ∈ [some .adc, some .sbc, some .bit, some .clv, some .plp, some .rti])
  | .d => decide (m ∈ [some .sed, some .cld, some .plp, some .rti])
  | .i => decide (m ∈ [some .sei, some .cli, some .brk, some .plp, some .rti])
  | .c => decide (m ∈ [some .adc, some .sbc, some .cmp, some .cpx, some .cpy, some .asl, some .lsr,
      some .rol, some .ror, some .sec, some .clc, some .plp, some .rti])

@[simp] theorem Flags.setNZ_v (r : Byte) (f : Flags) : (f.setNZ r).v = f.v := rfl
@[simp] theorem Flags.setNZ_d (r : Byte) (f : Flags) : (f.setNZ r).d = f.d := rfl
@[simp] theorem Flags.setNZ_i (r : Byte) (f : Flags) : (f.setNZ r).i = f.i := rfl
@[simp] theorem Flags.setNZ_c (r : Byte) (f : Flags) : (f.setNZ r).c = f.c := rfl

/-! ### Another cycle count, NMI latch and IRQ level -/

/-- The state with another cycle count, NMI latch and IRQ level. -/
def State.withInputs (s : State) (c : Nat) (pending line : Bool) : State :=
  { s with cycles := c, nmiPending := pending, irqLine := line }

section
variable (s : State) (c : Nat) (pending line : Bool)

@[simp] theorem State.withInputs_pc : (s.withInputs c pending line).pc = s.pc := rfl
@[simp] theorem State.withInputs_flags : (s.withInputs c pending line).flags = s.flags := rfl

@[simp] theorem State.tick_withInputs (n : Nat) :
    (s.withInputs c pending line).tick n = (s.tick n).withInputs (c + n) pending line := rfl
@[simp] theorem State.push_withInputs (v : Byte) :
    (s.withInputs c pending line).push v = (s.push v).withInputs (c + 1) pending line := rfl
@[simp] theorem State.pull_withInputs :
    (s.withInputs c pending line).pull =
      (s.pull.1, s.pull.2.withInputs (c + 1) pending line) := rfl
@[simp] theorem State.setFlags_withInputs (g : Flags → Flags) :
    (s.withInputs c pending line).setFlags g = (s.setFlags g).withInputs c pending line := rfl
@[simp] theorem State.readVector_withInputs (vector : Word) :
    (s.withInputs c pending line).readVector vector =
      ((s.readVector vector).1, (s.readVector vector).2.withInputs (c + 2) pending line) := rfl

end

/-- The value is read off the state without a look at the cycle count and the inputs. -/
def Blind {α : Type} (v : State → α) : Prop :=
  ∀ s c pending line, v (s.withInputs c pending line) = v s

/-! ### Effects and how they compose -/

/-- What the operation `f` may do: change the registers and flags of `w`, and let `lo` to `hi` ticks
pass, the same whatever the cycle count and the inputs are. -/
structure Effect (w : List Part) (lo hi : Nat) (f : State → State) : Prop where
  frame : ∀ s p, p ∈ w ∨ p.Same s (f s)
  ticks : ∀ s, ∃ n, lo ≤ n ∧ n ≤ hi ∧ ∀ c pending line,
    f (s.withInputs c pending line) = (f s).withInputs (c + n) pending line

section
variable {α : Type} {w w' : List Part} {n lo hi lo' hi' : Nat} {f : State → State}

/-- An operation with a fixed number of ticks. -/
theorem Effect.straight (frame : ∀ s p, p ∈ w ∨ p.Same s (f s))
    (ticks : ∀ s c pending line,
      f (s.withInputs c pending line) = (f s).withInputs (c + n) pending line) : Effect w n n f :=
  ⟨frame, fun s => ⟨n, le_rfl, le_rfl, ticks s⟩⟩

theorem Effect.mono (h : Effect w lo hi f) (hw : w ⊆ w') : Effect w' lo hi f where
  frame s p := (h.frame s p).imp_left (hw ·)
  ticks := h.ticks

/-- First `f`, then `g` on a value read off the state before. -/
theorem Effect.bind {v : State → α} {g : α → State → State} (hf : Effect w lo hi f) (hv : Blind v)
    (hg : ∀ a, Effect w lo' hi' (g a)) :
    Effect w (lo + lo') (hi + hi') (fun s => g (v s) (f s)) where
  frame s p := by
    rcases hf.frame s p with h | h
    · exact .inl h
    · exact ((hg (v s)).frame (f s) p).imp_right h.trans
  ticks s := by
    obtain ⟨n, hn, hn', h⟩ := hf.ticks s
    obtain ⟨m, hm, hm', k⟩ := (hg (v s)).ticks (f s)
    refine ⟨n + m, by omega, by omega, fun c pending line => ?_⟩
    rw [hv, h, k, Nat.add_assoc]

theorem Effect.andThen {g : State → State} (hf : Effect w lo hi f) (hg : Effect w lo' hi' g) :
    Effect w (lo + lo') (hi + hi') (fun s => g (f s)) :=
  hf.bind (v := fun _ => ()) (fun _ _ _ _ => rfl) fun _ => hg

end

/-! ### The shared operations -/

theorem Effect.refl (w : List Part) : Effect w 0 0 fun s => s :=
  .straight (fun _ p => .inr (by cases p <;> rfl)) fun _ _ _ _ => rfl

theorem Effect.tick (w : List Part) (n : Nat) : Effect w n n (State.tick n) :=
  .straight (fun _ p => .inr (by cases p <;> rfl)) fun _ _ _ _ => rfl

theorem Effect.memRead (w : List Part) (a : Word) : Effect w 1 1 fun s => (s.memRead a).2 :=
  .straight (fun _ p => .inr (by cases p <;> rfl)) fun _ _ _ _ => rfl

theorem Effect.memWrite (w : List Part) (a : Word) (v : Byte) : Effect w 1 1 (State.memWrite a v) :=
  .straight (fun _ p => .inr (by cases p <;> rfl)) fun _ _ _ _ => rfl

theorem Effect.setPc (v : Word) : Effect [.pc] 0 0 fun s => { s with pc := v } :=
  .straight (fun _ p => by cases p <;> simp [Part.Same]) fun _ _ _ _ => rfl

/-- A change of flags that looks at the registers. -/
theorem Effect.setFlags {w : List Part} {g : State → Flags → Flags} (hg : Blind g)
    (frame : ∀ s p, p ∈ w ∨ p.Same s (s.setFlags (g s))) :
    Effect w 0 0 fun s => s.setFlags (g s) :=
  .straight frame fun s c pending line => by rw [hg]; rfl

theorem Effect.setNZ {v : State → Byte} (hv : Blind v) :
    Effect [.n, .z] 0 0 fun s => s.setFlags (Flags.setNZ (v s)) :=
  .setFlags (g := fun s => Flags.setNZ (v s)) (fun _ _ _ _ => by simp only [hv _ _ _ _])
    fun _ p => by cases p <;> simp [Part.Same]

theorem Effect.loadA {v : State → Byte} (hv : Blind v) :
    Effect [.a, .n, .z] 0 0 fun s => s.loadA (v s) :=
  .straight (fun _ p => by cases p <;> simp [Part.Same]) fun s c pending line => by rw [hv]; rfl

theorem Effect.loadX {v : State → Byte} (hv : Blind v) :
    Effect [.x, .n, .z] 0 0 fun s => s.loadX (v s) :=
  .straight (fun _ p => by cases p <;> simp [Part.Same]) fun s c pending line => by rw [hv]; rfl

theorem Effect.loadY {v : State → Byte} (hv : Blind v) :
    Effect [.y, .n, .z] 0 0 fun s => s.loadY (v s) :=
  .straight (fun _ p => by cases p <;> simp [Part.Same]) fun s c pending line => by rw [hv]; rfl

theorem Effect.compare {r : State → Byte} (hr : Blind r) (v : Byte) :
    Effect [.n, .z, .c] 0 0 fun s => s.setFlags (Flags.compare (r s) v) :=
  .setFlags (g := fun s => Flags.compare (r s) v) (fun _ _ _ _ => by simp only [hr _ _ _ _])
    fun _ p => by cases p <;> simp [Part.Same, Flags.compare]

theorem Effect.opBit (v : Byte) : Effect [.n, .v, .z] 0 0 (opBit v) :=
  .setFlags (g := fun s => Flags.bitTest s.a v) (fun _ _ _ _ => rfl)
    fun _ p => by cases p <;> simp [Part.Same, Flags.bitTest]

theorem Effect.opAdc (v : Byte) : Effect [.a, .n, .v, .z, .c] 0 0 (opAdc v) :=
  .straight
    (fun s p => by
      rw [opAdc_state]
      cases p <;> simp [Part.Same])
    fun s c pending line => by
      cases h : s.flags.d <;> simp only [Machine.opAdc, State.withInputs_flags, h] <;> rfl

theorem Effect.opSbc (v : Byte) : Effect [.a, .n, .v, .z, .c] 0 0 (opSbc v) :=
  .straight
    (fun s p => by
      rw [opSbc_state]
      cases p <;> simp [Part.Same])
    fun _ _ _ _ => rfl

/-! ### Addresses and the shape templates -/

theorem Effect.crossingTick (w : List Part) (access : Access) (base : Word) (index : Byte) :
    Effect w 0 1 (crossingTick access base index) where
  frame s p := by
    rw [crossingTick_eq]
    exact (Effect.tick w _).frame s p
  ticks s := by
    refine ⟨if access = .read ∧ crossed base index = false then 0 else 1, Nat.zero_le _,
      by split <;> decide, fun c pending line => ?_⟩
    rw [crossingTick_eq, crossingTick_eq, State.tick_withInputs]

theorem Effect.zeroPagePointer (w : List Part) (p : Byte) :
    Effect w 2 2 fun s => (zeroPagePointer p s).2 :=
  (Effect.memRead w _).andThen (.memRead w _)

theorem effectiveAddress_blind (access : Access) (m : MemOperand) :
    Blind fun s => (effectiveAddress access m s).1 := by
  intro s c pending line
  cases m <;> rfl

theorem Effect.effectiveAddress (w : List Part) (access : Access) (m : MemOperand) :
    Effect w (modeTicks m) (modeTicks m + fixedTick m) fun s => (effectiveAddress access m s).2 := by
  cases m with
  | zp | abs => exact .refl w
  | zpx | zpy => exact .tick w 1
  | absx addr =>
    exact (Effect.refl w).bind (v := State.x) (fun _ _ _ _ => rfl) (.crossingTick w access addr)
  | absy addr =>
    exact (Effect.refl w).bind (v := State.y) (fun _ _ _ _ => rfl) (.crossingTick w access addr)
  | indx z =>
    exact (Effect.tick w 1).bind (v := fun s => z + s.x) (fun _ _ _ _ => rfl) (.zeroPagePointer w)
  | indy z =>
    exact (Effect.zeroPagePointer w z).bind (v := fun s => ((Machine.zeroPagePointer z s).1, s.y))
      (fun _ _ _ _ => rfl) fun a => .crossingTick w access a.1 a.2

theorem Effect.readMem {w : List Part} (m : MemOperand) {op : Byte → State → State}
    (hop : ∀ v, Effect w 0 0 (op v)) :
    Effect w (modeTicks m + 1) (modeTicks m + fixedTick m + 1) (readMem m op) :=
  (Effect.effectiveAddress w .read m).bind (effectiveAddress_blind .read m) fun a =>
    (Effect.memRead w a).bind (v := fun s => (s.memRead a).1) (fun _ _ _ _ => rfl) hop

theorem Effect.writeMem (w : List Part) (m : MemOperand) {reg : State → Byte} (hreg : Blind reg) :
    Effect w (modeTicks m + 1) (modeTicks m + fixedTick m + 1) (writeMem m reg) :=
  (Effect.effectiveAddress w .write m).bind (effectiveAddress_blind .write m) fun a =>
    (Effect.refl w).bind hreg (.memWrite w a)

theorem Effect.impliedShape {w : List Part} {lo hi : Nat} {op : State → State}
    (hop : Effect w lo hi op) : Effect w (1 + lo) (1 + hi) (impliedShape op) :=
  (Effect.tick w 1).andThen hop

/-- A read-modify-write function that touches no flag but C (43_rmw.md R126 to R131). -/
def CarryOnly (f : Byte → Flags → Byte × Flags) : Prop :=
  ∀ v fl, (f v fl).2 = { fl with c := (f v fl).2.c }

/-- The flags of a read-modify-write instruction on the byte `v`. -/
def rmwFlags (f : Byte → Flags → Byte × Flags) (v : Byte) (s : State) : State :=
  { s with flags := (f v s.flags).2.setNZ (f v s.flags).1 }

theorem Effect.rmwFlags {f : Byte → Flags → Byte × Flags} (hf : CarryOnly f) (v : Byte) :
    Effect [.n, .z, .c] 0 0 (rmwFlags f v) :=
  .straight
    (fun s p => by
      cases p with
      | n | z | c => exact .inl (by decide)
      | v => exact .inr (congrArg Flags.v (hf v s.flags) :)
      | d => exact .inr (congrArg Flags.d (hf v s.flags) :)
      | i => exact .inr (congrArg Flags.i (hf v s.flags) :)
      | _ => exact .inr rfl)
    fun _ _ _ _ => rfl

theorem Effect.rmwAcc {f : Byte → Flags → Byte × Flags} (hf : CarryOnly f) :
    Effect [.a, .n, .z, .c] 1 1 (rmwAcc f) := by
  have flags : ∀ v, Effect [.a, .n, .z, .c] 0 0 (Machine.rmwFlags f v) := fun v =>
    (Effect.rmwFlags hf v).mono (by decide)
  have setA : ∀ r, Effect [.a, .n, .z, .c] 0 0 fun s : State => { s with a := r } := fun r =>
    .straight (fun _ p => by cases p <;> simp [Part.Same]) fun _ _ _ _ => rfl
  exact (Effect.tick _ 1).bind (v := fun s => (s.a, (f s.a s.flags).1)) (fun _ _ _ _ => rfl) fun a =>
    (flags a.1).andThen (setA a.2)

theorem Effect.rmwMem {w : List Part} (m : MemOperand) {f : Byte → Flags → Byte × Flags}
    (hf : ∀ v, Effect w 0 0 (Machine.rmwFlags f v)) :
    Effect w (modeTicks m + 3) (modeTicks m + fixedTick m + 3) (rmwMem m f) := by
  have modify : ∀ a v, Effect w 2 2 fun s =>
      (Machine.rmwFlags f v (s.tick 1)).memWrite a (f v s.flags).1 := fun a v =>
    ((Effect.tick w 1).andThen (hf v)).bind (v := fun s => (f v s.flags).1) (fun _ _ _ _ => rfl)
      (.memWrite w a)
  exact (Effect.effectiveAddress w .rmw m).bind (effectiveAddress_blind .rmw m) fun a =>
    (Effect.memRead w a).bind (v := fun s => (s.memRead a).1) (fun _ _ _ _ => rfl) (modify a)

/-! ### Stack, jumps and branches -/

theorem Effect.push (v : Byte) : Effect [.sp] 1 1 (State.push v) :=
  .straight (fun _ p => by cases p <;> simp [Part.Same]) fun _ _ _ _ => rfl

theorem Effect.pull : Effect [.sp] 1 1 fun s => s.pull.2 :=
  .straight (fun _ p => by cases p <;> simp [Part.Same]) fun _ _ _ _ => rfl

theorem Effect.takeException (vector : Word) (b : Bool) :
    Effect [.sp, .pc, .i] 5 5 (takeException vector b) :=
  .straight
    (fun s p => by cases p <;> simp [Part.Same, Machine.takeException, State.readVector])
    fun s c pending line => by
      simp only [Machine.takeException, State.withInputs_pc, State.push_withInputs,
        State.withInputs_flags, State.setFlags_withInputs, State.readVector_withInputs]
      rfl

theorem Effect.softwareInterrupt : Effect [.sp, .pc, .i] 6 6 softwareInterrupt := by
  have skip : ∀ pc, Effect [.sp, .pc, .i] 0 0 fun s : State => { s with pc := pc } := fun pc =>
    (Effect.setPc pc).mono (by decide)
  exact ((Effect.tick _ 1).bind (v := fun s => s.pc + 1) (fun _ _ _ _ => rfl) skip).andThen
    (.takeException irqVector true)

theorem Effect.returnFromException :
    Effect [.sp, .pc, .n, .v, .d, .i, .z, .c] 3 3 returnFromException :=
  .straight
    (fun s p => by cases p <;> simp [Part.Same, Machine.returnFromException])
    fun s c pending line => by
      simp only [Machine.returnFromException, State.pull_withInputs]
      rfl

theorem Effect.pushAfterTick {v : State → Byte} (hv : Blind v) :
    Effect [.sp] 2 2 fun s => (s.tick 1).push (v s) :=
  (Effect.tick _ 1).bind hv .push

theorem Effect.jumpIndirect (ptr : Word) :
    Effect [.pc] 2 2 fun s => { (targetInd ptr s).2 with pc := (targetInd ptr s).1 } :=
  ((Effect.memRead _ ptr).andThen (.memRead _ _)).bind (v := fun s => (targetInd ptr s).1)
    (fun _ _ _ _ => rfl) .setPc

/-- Pull after two ticks, then an Operation on the byte pulled. -/
theorem Effect.pullAfterTicks {w : List Part} {g : Byte → State → State}
    (hg : ∀ v, Effect w 0 0 (g v)) :
    Effect (.sp :: w) 3 3 fun s => g (s.tick 2).pull.1 (s.tick 2).pull.2 :=
  ((Effect.tick _ 2).andThen (Effect.pull.mono (by simp))).bind (v := fun s => (s.tick 2).pull.1)
    (fun _ _ _ _ => rfl) fun v => (hg v).mono (List.subset_cons_self ..)

theorem Effect.callSubroutine (target : Word) : Effect [.sp, .pc] 3 3 (callSubroutine target) :=
  .straight
    (fun s p => by cases p <;> simp [Part.Same, Machine.callSubroutine])
    fun s c pending line => by
      simp only [Machine.callSubroutine, State.tick_withInputs, State.withInputs_pc,
        State.push_withInputs]
      rfl

theorem Effect.returnFromSubroutine : Effect [.sp, .pc] 5 5 returnFromSubroutine :=
  .straight
    (fun s p => by cases p <;> simp [Part.Same, Machine.returnFromSubroutine])
    fun s c pending line => by
      simp only [Machine.returnFromSubroutine, State.pull_withInputs, State.tick_withInputs]
      rfl

theorem branchTicks_le (taken : Bool) (off : Byte) (s : State) : branchTicks taken off s ≤ 2 := by
  unfold branchTicks
  split
  · split <;> decide
  · exact Nat.zero_le 2

/-- A branch whose condition is read off the flags (47_jump_branch.md R181). -/
theorem Effect.branchShape {cond : State → Bool} (hcond : Blind cond) (off : Byte) :
    Effect [.pc] 0 2 fun s => branchShape (cond s) off s where
  frame s p := by
    rw [branchShape_eq]
    cases p <;> simp [Part.Same]
  ticks s := by
    refine ⟨branchTicks (cond s) off s, Nat.zero_le _, branchTicks_le .., fun c pending line => ?_⟩
    rw [branchShape_eq, branchShape_eq, hcond]
    rfl

/-! ### Every instruction -/

/-- Every well-formed instruction has its row of the table. -/
theorem dispatchRow (i : Instr) : Laws.DispatchRow.Statement i := by
  cases i with
  | illegal op => exact Laws.DispatchRow.illegal op
  | _ =>
    intro _
    simp only [Instr.entry, Instr.opcode, encode, List.headD_cons]
    rfl

/-- Execution of `i` answers the next state that an operation with an `Effect` gives; the parts that it
writes are those the rules allow, and with the fetch of its bytes it takes 2 to 7 ticks (48_step_engine.md
R198). -/
def ExecEffect (i : Instr) : Prop :=
  ∃ f w lo hi, (∀ s, exec i s = .next (f s)) ∧ Effect w lo hi f ∧
    (∀ p ∈ w, p.writtenBy i.mnemonic i.mode = true) ∧ 2 ≤ i.length + lo ∧ i.length + hi ≤ 7

/-- The check of writers and bounds against the row of an instruction: it computes whatever the operand
is. -/
def allowed (i : Instr) (w : List Part) (lo hi : Nat) : Bool :=
  ((Laws.DispatchRow.row i).any fun r => w.all (·.writtenBy (some r.2.1) (some r.1))) &&
    Nat.ble 2 (i.length + lo) && Nat.ble (i.length + hi) 7

theorem ExecEffect.of {i : Instr} {f : State → State} {w : List Part} {lo hi : Nat}
    (h : Effect w lo hi f) (he : ∀ s, exec i s = .next (f s)) (wf : i.wf = true)
    (ok : allowed i w lo hi = true) : ExecEffect i := by
  simp only [allowed, Bool.and_eq_true, Option.any_eq_true, List.all_eq_true, Nat.ble_eq] at ok
  obtain ⟨⟨⟨⟨mode, m, n⟩, row, writers⟩, least⟩, most⟩ := ok
  obtain ⟨hmode, hm, -, -⟩ := Laws.DispatchRow.fields (dispatchRow i) wf row
  exact ⟨f, w, lo, hi, he, h, by rwa [hmode, hm], least, most⟩

/-- Every instruction but an illegal byte: one case for each shape template and Operation. In each, the
rule of the template gives the effect, `exec` is that template by definition, and the last two parts
compute `Instr.wf` and the check `allowed`. -/
theorem exec_effect (i : Instr) (h : ∀ op, i ≠ .illegal op) : ExecEffect i := by
  cases i with
  | illegal op => exact absurd rfl (h op)
  | ldaImm | oraImm | andImm | eorImm =>
    exact .of (.loadA fun _ _ _ _ => rfl) (fun _ => rfl) rfl rfl
  | ldxImm => exact .of (.loadX fun _ _ _ _ => rfl) (fun _ => rfl) rfl rfl
  | ldyImm => exact .of (.loadY fun _ _ _ _ => rfl) (fun _ => rfl) rfl rfl
  | adcImm d8 => exact .of (.opAdc d8) (fun _ => rfl) rfl rfl
  | sbcImm d8 => exact .of (.opSbc d8) (fun _ => rfl) rfl rfl
  | cmpImm | cpxImm | cpyImm =>
    exact .of (.compare (fun _ _ _ _ => rfl) _) (fun _ => rfl) rfl rfl
  | ldaZp | ldaZpx | ldaAbs | ldaAbsx | ldaAbsy | ldaIndx | ldaIndy
  | oraZp | oraZpx | oraAbs | oraAbsx | oraAbsy | oraIndx | oraIndy
  | andZp | andZpx | andAbs | andAbsx | andAbsy | andIndx | andIndy
  | eorZp | eorZpx | eorAbs | eorAbsx | eorAbsy | eorIndx | eorIndy =>
    exact .of (.readMem _ fun _ => .loadA fun _ _ _ _ => rfl) (fun _ => rfl) rfl rfl
  | ldxZp | ldxZpy | ldxAbs | ldxAbsy =>
    exact .of (.readMem _ fun _ => .loadX fun _ _ _ _ => rfl) (fun _ => rfl) rfl rfl
  | ldyZp | ldyZpx | ldyAbs | ldyAbsx =>
    exact .of (.readMem _ fun _ => .loadY fun _ _ _ _ => rfl) (fun _ => rfl) rfl rfl
  | adcZp | adcZpx | adcAbs | adcAbsx | adcAbsy | adcIndx | adcIndy =>
    exact .of (.readMem _ .opAdc) (fun _ => rfl) rfl rfl
  | sbcZp | sbcZpx | sbcAbs | sbcAbsx | sbcAbsy | sbcIndx | sbcIndy =>
    exact .of (.readMem _ .opSbc) (fun _ => rfl) rfl rfl
  | cmpZp | cmpZpx | cmpAbs | cmpAbsx | cmpAbsy | cmpIndx | cmpIndy
  | cpxZp | cpxAbs | cpyZp | cpyAbs =>
    exact .of (.readMem _ <| .compare fun _ _ _ _ => rfl) (fun _ => rfl) rfl rfl
  | bitZp | bitAbs => exact .of (.readMem _ .opBit) (fun _ => rfl) rfl rfl
  | aslAcc | lsrAcc | rolAcc | rorAcc =>
    exact .of (.rmwAcc fun _ _ => rfl) (fun _ => rfl) rfl rfl
  | incZp | incZpx | incAbs | incAbsx | decZp | decZpx | decAbs | decAbsx =>
    exact .of (.rmwMem _ fun _ => .setNZ fun _ _ _ _ => rfl) (fun _ => rfl) rfl rfl
  | aslZp | aslZpx | aslAbs | aslAbsx | lsrZp | lsrZpx | lsrAbs | lsrAbsx
  | rolZp | rolZpx | rolAbs | rolAbsx | rorZp | rorZpx | rorAbs | rorAbsx =>
    exact .of (.rmwMem _ <| .rmwFlags fun _ _ => rfl) (fun _ => rfl) rfl rfl
  | staZp | staZpx | staAbs | staAbsx | staAbsy | staIndx | staIndy
  | stxZp | stxZpy | stxAbs | styZp | styZpx | styAbs =>
    exact .of (.writeMem [] _ fun _ _ _ _ => rfl) (fun _ => rfl) rfl rfl
  | clc | sec =>
    exact .of (.impliedShape <| .setFlags (w := [.c]) (fun _ _ _ _ => rfl)
      fun _ p => by cases p <;> simp [Part.Same]) (fun _ => rfl) rfl rfl
  | cld | sed =>
    exact .of (.impliedShape <| .setFlags (w := [.d]) (fun _ _ _ _ => rfl)
      fun _ p => by cases p <;> simp [Part.Same]) (fun _ => rfl) rfl rfl
  | cli | sei =>
    exact .of (.impliedShape <| .setFlags (w := [.i]) (fun _ _ _ _ => rfl)
      fun _ p => by cases p <;> simp [Part.Same]) (fun _ => rfl) rfl rfl
  | clv =>
    exact .of (.impliedShape <| .setFlags (w := [.v]) (fun _ _ _ _ => rfl)
      fun _ p => by cases p <;> simp [Part.Same]) (fun _ => rfl) rfl rfl
  | nop => exact .of (.impliedShape <| .refl []) (fun _ => rfl) rfl rfl
  | inx | dex | tax | tsx =>
    exact .of (.impliedShape <| .loadX fun _ _ _ _ => rfl) (fun _ => rfl) rfl rfl
  | iny | dey | tay =>
    exact .of (.impliedShape <| .loadY fun _ _ _ _ => rfl) (fun _ => rfl) rfl rfl
  | txa | tya => exact .of (.impliedShape <| .loadA fun _ _ _ _ => rfl) (fun _ => rfl) rfl rfl
  | txs =>
    exact .of (.impliedShape <| .straight (w := [.sp]) (n := 0)
      (fun _ p => by cases p <;> simp [Part.Same]) fun _ _ _ _ => rfl) (fun _ => rfl) rfl rfl
  | pha | php => exact .of (.pushAfterTick fun _ _ _ _ => rfl) (fun _ => rfl) rfl rfl
  | pla =>
    exact .of (.pullAfterTicks (g := State.loadA) fun _ => .loadA fun _ _ _ _ => rfl)
      (fun _ => rfl) rfl rfl
  | plp =>
    exact .of (.pullAfterTicks fun v => .setFlags (w := [.n, .v, .d, .i, .z, .c])
      (g := fun _ _ => Flags.unpackP v) (fun _ _ _ _ => rfl)
      fun _ p => by cases p <;> simp [Part.Same]) (fun _ => rfl) rfl rfl
  | jsr target => exact .of (.callSubroutine target) (fun _ => rfl) rfl rfl
  | rts => exact .of .returnFromSubroutine (fun _ => rfl) rfl rfl
  | brk => exact .of .softwareInterrupt (fun _ => rfl) rfl rfl
  | rti => exact .of ((Effect.tick _ 2).andThen .returnFromException) (fun _ => rfl) rfl rfl
  | jmpAbs target => exact .of (.setPc target) (fun _ => rfl) rfl rfl
  | jmpInd ptr => exact .of (.jumpIndirect ptr) (fun _ => rfl) rfl rfl
  | bpl off | bmi off | bvc off | bvs off | bcc off | bcs off | bne off | beq off =>
    exact .of (.branchShape (fun _ _ _ _ => rfl) off) (fun _ => rfl) rfl rfl

/-- What answers a next state is no illegal byte. -/
theorem exec_next_effect {i : Instr} {s t : State} (h : exec i s = .next t) : ExecEffect i :=
  exec_effect i (by rintro op rfl; nomatch h)

/-- Whatever execution changes is among the parts that the rules let the instruction write. -/
theorem exec_changes {i : Instr} {s t : State} (h : exec i s = .next t) (p : Part)
    (changed : ¬ p.Same s t) : p.writtenBy i.mnemonic i.mode = true := by
  obtain ⟨f, w, lo, hi, he, effect, writers, -, -⟩ := exec_next_effect h
  obtain rfl : f s = t := by simpa [he] using h
  exact writers p ((effect.frame s p).resolve_right changed)

/-- Execution takes as many ticks, and answers the same, whatever the cycle count, the NMI latch and the
IRQ line are, and leaves the latter two. -/
theorem exec_ticks {i : Instr} {s t : State} (h : exec i s = .next t) :
    ∃ n, 2 ≤ i.length + n ∧ i.length + n ≤ 7 ∧ t.cycles = s.cycles + n ∧
      t.nmiPending = s.nmiPending ∧ t.irqLine = s.irqLine ∧
      ∀ c pending line, exec i (s.withInputs c pending line) =
        .next (t.withInputs (c + n) pending line) := by
  obtain ⟨f, w, lo, hi, he, effect, -, least, most⟩ := exec_next_effect h
  obtain rfl : f s = t := by simpa [he] using h
  obtain ⟨n, hn, hn', twin⟩ := effect.ticks s
  have own : f s = (f s).withInputs (s.cycles + n) s.nmiPending s.irqLine :=
    twin s.cycles s.nmiPending s.irqLine
  exact ⟨n, by omega, by omega, congrArg State.cycles own, (congrArg State.nmiPending own :),
    (congrArg State.irqLine own :), fun c pending line => by rw [he, twin]⟩

/-- Settles O53: a register that changed is among the parts execution may write. -/
theorem registerWriters : Obligations.RegisterWriters := by
  intro i s t h
  have changes := exec_changes h
  obtain ⟨n, -, -, -, nmi, irq, -⟩ := exec_ticks h
  have grown := exec_extends i s
  rw [h, outcomeExtends_next] at grown
  exact ⟨fun ha => of_decide_eq_true (changes .a ha), fun hx => of_decide_eq_true (changes .x hx),
    fun hy => of_decide_eq_true (changes .y hy), fun hs => of_decide_eq_true (changes .sp hs),
    fun hp => of_decide_eq_true (changes .pc hp), nmi, irq, grown.2.1⟩

/-- Settles O54: a flag that changed is among the parts execution may write. -/
theorem flagWriters : Obligations.FlagWriters := by
  intro i s t h
  have changes := exec_changes h
  exact ⟨fun hn => of_decide_eq_true (changes .n hn), fun hz => of_decide_eq_true (changes .z hz),
    fun hv => of_decide_eq_true (changes .v hv), fun hd => of_decide_eq_true (changes .d hd),
    fun hi => of_decide_eq_true (changes .i hi), fun hc => of_decide_eq_true (changes .c hc)⟩

/-- Settles O60: execution is the same operation whatever the cycle count and the inputs are. -/
theorem noInstructionReadsCyclesOrInputs : Obligations.NoInstructionReadsCyclesOrInputs := by
  intro i s t c pending line h
  obtain ⟨n, -, -, ticks, -, -, twin⟩ := exec_ticks h
  have elapsed : cyclesElapsed s t = n := by rw [cyclesElapsed, ticks, Nat.add_sub_cancel_left]
  rw [elapsed]
  exact twin c pending line

/-! ### The fetch of one instruction -/

/-- What a dispatch entry builds has the length of the entry's format (30_encoding.md R61). -/
def EntryFits : Option DispatchEntry → Prop
  | none => True
  | some e =>
    match e.build with
    | .none i => i.length = 1
    | .byte make => ∀ d, (make d).length = 2
    | .word make => ∀ a, (make a).length = 3

theorem opcodeMatrix_fits : ∀ row ∈ opcodeMatrix, ∀ o ∈ row, EntryFits o := by
  simp only [opcodeMatrix, opcodeRow0, opcodeRow1, opcodeRow2, opcodeRow3, opcodeRow4, opcodeRow5,
    opcodeRow6, opcodeRow7, opcodeRow8, opcodeRow9, opcodeRowA, opcodeRowB, opcodeRowC, opcodeRowD,
    opcodeRowE, opcodeRowF, List.forall_mem_cons]
  simp [EntryFits, entry0, entry1, entry2, Instr.length, encode]

theorem forall_getD {α : Type} {P : α → Prop} {l : List α} {d : α} (hl : ∀ a ∈ l, P a) (hd : P d)
    (n : Nat) : P (l.getD n d) := by
  rcases lt_or_ge n l.length with h | h
  · rw [List.getD_eq_getElem _ _ h]
    exact hl _ (List.getElem_mem h)
  · rwa [List.getD_eq_default _ _ h]

theorem dispatchEntry_fits (op : Byte) : EntryFits (dispatchEntry op) :=
  have row := forall_getD opcodeMatrix_fits (d := []) (by simp) (op.toNat / 16)
  forall_getD row (d := none) trivial (op.toNat % 16)

/-- Fetching an instruction takes one tick for each of its bytes and leaves the inputs. -/
theorem State.fetchInstr_ticks (s : State) :
    s.fetchInstr.2.cycles = s.cycles + s.fetchInstr.1.length ∧
      s.fetchInstr.2.nmiPending = s.nmiPending := by
  have fits := dispatchEntry_fits s.fetch8.1
  simp only [State.fetchInstr]
  cases he : dispatchEntry s.fetch8.1 with
  | none => exact ⟨rfl, rfl⟩
  | some e =>
    simp only [EntryFits, he] at fits
    simp only [Option.map_some]
    cases hb : e.build <;> simp only [hb] at fits ⊢ <;> simp [fits, State.fetch16]

/-! ### Ticks and the NMI latch over a step -/

theorem takeNmi_ticks (s : State) :
    (takeNmi s).cycles = s.cycles + 7 ∧ (takeNmi s).nmiPending = false := by
  simp [takeNmi, interruptEntry, takeException, State.readVector]

theorem takeIrq_ticks (s : State) :
    (takeIrq s).cycles = s.cycles + 7 ∧ (takeIrq s).nmiPending = s.nmiPending := by
  simp [takeIrq, interruptEntry, takeException, State.readVector]

theorem State.resetOp_ticks (s : State) :
    s.resetOp.cycles = s.cycles + 7 ∧ s.resetOp.nmiPending = false := by
  simp [State.resetOp, State.readVector]

/-- Execution answers a next state, or the fault of an illegal byte with the state it was given. -/
theorem exec_outcome (i : Instr) (s : State) :
    (∃ t, exec i s = .next t) ∨ ∃ op, i = .illegal op ∧ exec i s = .fault (.illegalOpcode op s) := by
  by_cases hi : ∃ op, i = .illegal op
  · obtain ⟨op, rfl⟩ := hi
    exact .inr ⟨op, rfl, rfl⟩
  · obtain ⟨f, w, lo, hi, he, -⟩ := exec_effect i (not_exists.mp hi)
    exact .inl ⟨f s, he s⟩

theorem State.nmiPending_of_poll {s : State} (h : s.poll = .instruction) : s.nmiPending = false := by
  cases hn : s.nmiPending with
  | false => rfl
  | true => simp [State.poll, hn] at h

/-- A step answers a next state after 2 to 7 ticks, or the fault after the one tick of fetching the
illegal byte (48_step_engine.md R198; 60_exceptions.md R211); no NMI is pending after either. -/
theorem step_outcome (s : State) :
    (∃ t n, step s = .next t ∧ 2 ≤ n ∧ n ≤ 7 ∧ t.cycles = s.cycles + n ∧ t.nmiPending = false) ∨
    ∃ op left, step s = .fault (.illegalOpcode op left) ∧ left.cycles = s.cycles + 1 ∧
      left.nmiPending = false := by
  obtain ⟨-, h⟩ | ⟨hn, -, -, h⟩ | ⟨hp, h⟩ := step_cases s
  · obtain ⟨ticks, nmi⟩ := takeNmi_ticks s
    exact .inl ⟨_, 7, h, by decide, le_rfl, ticks, nmi⟩
  · obtain ⟨ticks, nmi⟩ := takeIrq_ticks s
    exact .inl ⟨_, 7, h, by decide, le_rfl, ticks, nmi.trans hn⟩
  · obtain ⟨fetch, kept⟩ := s.fetchInstr_ticks
    have hn := kept.trans (State.nmiPending_of_poll hp)
    obtain ⟨t, ht⟩ | ⟨op, hi, hf⟩ := exec_outcome s.fetchInstr.1 s.fetchInstr.2
    · obtain ⟨n, least, most, ticks, nmi, -⟩ := exec_ticks ht
      exact .inl ⟨t, _, h.trans ht, least, most, by rw [ticks, fetch, Nat.add_assoc], nmi.trans hn⟩
    · rw [hi] at fetch
      exact .inr ⟨op, _, h.trans hf, fetch, hn⟩

/-! ### The cycle counter (R32) -/

theorem State.toNat_cycleCounter {s : State} (h : s.cycles < 2 ^ 64) :
    s.cycleCounter.toNat = s.cycles := by
  rw [State.cycleCounter, if_pos h, BitVec.toNat_ofNat, Nat.mod_eq_of_lt h]

/-- Settles O59: below 2^64 the counter is the number of ticks, of which a step adds as many as
`step_outcome` says. -/
theorem cycleCounterView : Obligations.CycleCounterView := by
  refine ⟨rfl, fun s => ⟨State.toNat_cycleCounter, fun h => if_neg (Nat.not_lt.mpr h), fun room => ?_⟩⟩
  have reads : ∀ (t : State) (n : Nat), n ≤ 7 → t.cycles = s.cycles + n →
      t.cycleCounter.toNat = s.cycleCounter.toNat + n := fun t n hn ht => by
    rw [State.toNat_cycleCounter (by omega), State.toNat_cycleCounter (by omega), ht]
  refine ⟨fun t ht => ?_, fun f hf => ?_, reads _ 7 le_rfl s.resetOp_ticks.1⟩
  · obtain ⟨t', n, h, least, most, ticks, -⟩ | ⟨op, left, h, -⟩ := step_outcome s
    · obtain rfl : t' = t := by simpa [ht] using h.symm
      have elapsed : cyclesElapsed s t' = n := by rw [cyclesElapsed, ticks, Nat.add_sub_cancel_left]
      rw [elapsed]
      exact ⟨reads t' n most ticks, least, most⟩
    · simp [ht] at h
  · obtain ⟨t, n, h, -⟩ | ⟨op, left, h, ticks, -⟩ := step_outcome s
    · simp [hf] at h
    · obtain rfl : f = .illegalOpcode op left := by simpa [hf] using h
      exact reads left 1 (by decide) ticks

/-! ### The turns of the host (R33, R37) -/

theorem Extends.cycles_le {s t : State} (h : Extends s t) : s.cycles ≤ t.cycles := by
  obtain ⟨-, -, evs, -, -, -, hc⟩ := h
  omega

/-- What a step leaves, next or faulted, extends the state it starts from. -/
theorem Extends.turn_step (s : State) : Extends s (s.turn .step) := by
  have h := step_extends s
  simp only [State.turn]
  cases hs : step s with
  | next t => rwa [hs] at h
  | fault f => rwa [hs] at h
  | refused r => exact .refl s

theorem State.hostEvent_wf {s : State} (h : s.mem.wf = true) (e : HostEvent) :
    (s.hostEvent e).mem.wf = true := by
  cases e with
  | poke a v => exact State.poke_wf h a v
  | _ => exact h

/-- One turn keeps the invariant and does not lower the cycle count. -/
theorem State.turn_keeps {s : State} (h : s.Inv) (turn : Turn) :
    (s.turn turn).Inv ∧ s.cycles ≤ (s.turn turn).cycles := by
  cases turn with
  | step => exact ⟨(Extends.turn_step s).inv h, (Extends.turn_step s).cycles_le⟩
  | event e =>
    by_cases he : e = .reset
    · subst he
      exact ⟨(Extends.resetOp s).inv h, (Extends.resetOp s).cycles_le⟩
    · obtain ⟨bus, cycles⟩ := s.hostEvent_bus e he
      refine ⟨⟨State.hostEvent_wf h.1 e, ?_⟩, cycles⟩
      exact (congrArg List.length bus).trans_le (h.2.trans cycles)

/-- Settles O57, by induction over the turns. -/
theorem hostTurnsKeepInvariant : Obligations.HostTurnsKeepInvariant := by
  intro s turns
  induction turns generalizing s with
  | nil => exact fun h => ⟨h, le_rfl⟩
  | cons turn turns ih =>
    intro h
    obtain ⟨inv, cycles⟩ := State.turn_keeps h turn
    obtain ⟨inv', cycles'⟩ := ih (s.turn turn) inv
    exact ⟨inv', cycles.trans cycles'⟩

theorem State.turn_step_nmiPending (s : State) : (s.turn .step).nmiPending = false := by
  simp only [State.turn]
  obtain ⟨t, n, h, -, -, -, nmi⟩ | ⟨op, left, h, -, nmi⟩ := step_outcome s <;> rw [h] <;> exact nmi

/-- Settles O58: only the edge sets the latch; after a step or RESET it is clear; no other event
touches it. -/
theorem nmiLatch : Obligations.NmiLatch := by
  intro s
  refine ⟨rfl, rfl, rfl, (takeNmi_ticks _).2, (State.resetOp_ticks _).2, fun turn => ?_⟩
  cases turn with
  | step => simp [State.turn_step_nmiPending]
  | event e =>
    cases e with
    | nmiEdge => exact ⟨fun _ _ => rfl, fun _ h => nomatch h⟩
    | reset =>
      have cleared : (s.turn (.event .reset)).nmiPending = false := s.resetOp_ticks.2
      simp [cleared]
    | irqLevel | launch | addCycles | poke | mapDevices =>
      have kept (h : s.nmiPending = false) (h' : s.nmiPending = true) : False := by simp [h] at h'
      exact ⟨fun h h' => (kept h h').elim, fun h' h => (kept h h').elim⟩

/-! ### Operations that each stand alone -/

/-- Settles O1: bit 7 of the byte 0 is 0. -/
theorem setNZFromResult : Obligations.SetNZFromResult := by
  refine fun v f => ⟨rfl, ?_⟩
  rintro ⟨negative, zero⟩
  have hv : v = 0x00 := by simpa [Flags.setNZ] using zero
  simp [Flags.setNZ, hv] at negative

/-- The byte of a flag at position `k` has that flag in bit `k` and 0 in every other. -/
theorem getElem_flagBit (b : Bool) (k j : Nat) (hj : j < 8) :
    (flagBit b k)[j] = (decide (j = k) && b) := by
  cases b with
  | false => simp [flagBit]
  | true =>
    rw [Bool.eq_iff_iff]
    simp [flagBit]
    omega

/-- Settles O2: each bit of the packed byte is that of the one flag at its position. -/
theorem packedStatusByte : Obligations.PackedStatusByte := by
  refine ⟨fun b f => ?_, fun _ => rfl, by decide⟩
  simp [Flags.packP, Flags.unpackP, getElem_flagBit]

/-- Settles O3: push and pull are one bus operation each, at the address S designates. -/
theorem pushThenPullOrder : Obligations.PushThenPullOrder :=
  fun _ _ => ⟨rfl, rfl, rfl, rfl, rfl, rfl⟩

/-- Settles O7: RESET on the core as created reads the vector from empty memory. -/
theorem resetStateIsPowerOnReset : Obligations.ResetStateIsPowerOnReset :=
  ⟨rfl, rfl, rfl, rfl, rfl, rfl⟩

end Sys2Proof.Machine
end

section
/-!
PROOFS for 20_memory.md (O5, O52, O55). A step follows the bus record because it extends its state
(`step_extends`). A canonical memory is determined by its bytes, by induction over the two lists. What
execution reads and writes is counted once for each shared operation (`Accesses`), and
`exec_accesses` compares the counts with the access table for every instruction.
-/

namespace Sys2Proof.Machine

/-- Settles O52: both outcomes of a step extend the state it starts from. -/
theorem stepFollowsBusRecord : Obligations.StepFollowsBusRecord := by
  intro s
  have h := step_extends s
  constructor
  · intro t ht
    rwa [ht, outcomeExtends_next] at h
  · intro f hf
    rwa [hf, outcomeExtends_fault] at h

/-! ### A canonical memory is determined by its bytes (R42) -/

@[simp] theorem Memory.read_head (k : Nat) (w : Byte) (rest : Memory) :
    Memory.read ((k, w) :: rest) k = w := if_pos rfl

/-- In a canonical list the first address is the least that holds a listed byte. -/
theorem Memory.head_le_of_listed {k a : Nat} {w : Byte} {rest : Memory}
    (h : Memory.wf ((k, w) :: rest) = true)
    (listed : Memory.read ((k, w) :: rest) a ≠ Config.unlistedByte) : k ≤ a := by
  by_contra below
  refine listed (Memory.read_of_not_listed fun c hc => ?_)
  rcases List.mem_cons.mp hc with rfl | hc
  · omega
  · have := Memory.wf_lt_of_mem h c hc
    omega

/-- Taking the same first cell off two canonical lists keeps their reads alike: behind it, its address
is unlisted in both. -/
theorem Memory.read_tail_eq {k : Nat} {w : Byte} {m m' : Memory}
    (h : Memory.wf ((k, w) :: m) = true) (h' : Memory.wf ((k, w) :: m') = true)
    (reads : ∀ a, Memory.read ((k, w) :: m) a = Memory.read ((k, w) :: m') a) (a : Nat) :
    m.read a = m'.read a := by
  by_cases ha : k = a
  · subst ha
    rw [Memory.read_of_not_listed fun c hc => (Memory.wf_lt_of_mem h c hc).ne',
      Memory.read_of_not_listed fun c hc => (Memory.wf_lt_of_mem h' c hc).ne']
  · simpa [Memory.read, ha] using reads a

/-- Settles O5, by induction over the two lists: their first cells are the least listed ones, hence
the same. -/
theorem equalReadsEqualMemories : Obligations.EqualReadsEqualMemories := by
  intro m
  induction m with
  | nil =>
    intro k _ hk reads
    cases k with
    | nil => rfl
    | cons c k =>
      obtain ⟨-, listed, -, -⟩ := (Memory.wf_cons c.1 c.2 k).mp hk
      exact absurd ((Memory.read_head c.1 c.2 k).symm.trans (reads c.1).symm) listed
  | cons c m ih =>
    intro k hm hk reads
    obtain ⟨a, v⟩ := c
    obtain ⟨-, listed, -, wf⟩ := (Memory.wf_cons a v m).mp hm
    cases k with
    | nil => exact absurd ((Memory.read_head a v m).symm.trans (reads a)) listed
    | cons d k =>
      obtain ⟨b, w⟩ := d
      obtain ⟨-, listed', -, wf'⟩ := (Memory.wf_cons b w k).mp hk
      obtain rfl : a = b := le_antisymm
        (Memory.head_le_of_listed hm (by rwa [reads, Memory.read_head]))
        (Memory.head_le_of_listed hk (by rwa [← reads, Memory.read_head]))
      obtain rfl : v = w := by simpa using reads a
      rw [ih k wf wf' (Memory.read_tail_eq hm hk reads)]

/-! ### Memory under a replay without writes at an address -/

theorem replay_read_of_not_written (s : State) {evs : List BusEvent} {b : Nat}
    (h : ∀ e ∈ evs, e.kind = .write → e.addr.toNat ≠ b) :
    (replay s evs).read b = s.mem.read b := by
  induction evs with
  | nil => rfl
  | cons e older ih =>
    obtain ⟨here, before⟩ := List.forall_mem_cons.mp h
    simp only [replay]
    split
    · next stored => rw [Memory.read_write_ne _ _ (here stored.1).symm, ih before]
    · exact ih before

theorem replay_of_no_write (s : State) {evs : List BusEvent} (h : ∀ e ∈ evs, e.kind ≠ .write) :
    replay s evs = s.mem := by
  induction evs with
  | nil => rfl
  | cons e older ih =>
    obtain ⟨here, before⟩ := List.forall_mem_cons.mp h
    rw [replay, if_neg fun stored => here stored.1, ih before]

/-! ### Counting transactions (R43) -/

/-- How many reads and how many writes are among these transactions. -/
def transactions (evs : List BusEvent) : Nat × Nat :=
  (evs.countP (fun e => e.kind == .read), evs.countP (fun e => e.kind == .write))

@[simp] theorem transactions_append (evs older : List BusEvent) :
    transactions (evs ++ older) = transactions evs + transactions older := by
  simp [transactions]

@[simp] theorem transactions_read (a : Word) (v : Byte) (older : List BusEvent) :
    transactions (⟨.read, a, v⟩ :: older) = transactions older + (1, 0) := by
  simp [transactions]

@[simp] theorem transactions_write (a : Word) (v : Byte) (older : List BusEvent) :
    transactions (⟨.write, a, v⟩ :: older) = transactions older + (0, 1) := by
  simp [transactions]

/-- From every state, the operation `f` issues `n.1` reads and `n.2` writes. -/
def Accesses (n : Nat × Nat) (f : State → State) : Prop :=
  ∀ s, transactions (f s).bus = transactions s.bus + n

theorem Accesses.of_bus_eq {f : State → State} (h : ∀ s, (f s).bus = s.bus) : Accesses (0, 0) f :=
  fun s => by rw [h]; rfl

/-- The reads of a mode's pointer in page 0 (40_addressing_modes.md R88, R89). -/
def pointerReads : MemOperand → Nat
  | .indx _ | .indy _ => 2
  | .zp _ | .zpx _ | .zpy _ | .abs _ | .absx _ | .absy _ => 0

theorem Accesses.effectiveAddress (access : Access) (m : MemOperand) :
    Accesses (pointerReads m, 0) fun s => (effectiveAddress access m s).2 := by
  intro s
  cases m <;>
    simp [Machine.effectiveAddress, crossingTick_eq, zeroPagePointer, pointerReads, add_assoc]

theorem Accesses.readMem (m : MemOperand) {op : Byte → State → State}
    (hop : ∀ v s, (op v s).bus = s.bus) : Accesses (pointerReads m + 1, 0) (readMem m op) := by
  intro s
  have address := Accesses.effectiveAddress .read m s
  simp [Machine.readMem, Machine.loadOperand, hop, address, add_assoc]

theorem Accesses.writeMem (m : MemOperand) (reg : State → Byte) :
    Accesses (pointerReads m, 1) (writeMem m reg) := by
  intro s
  have address := Accesses.effectiveAddress .write m s
  simp [Machine.writeMem, address, add_assoc]

theorem Accesses.rmwMem (m : MemOperand) (f : Byte → Flags → Byte × Flags) :
    Accesses (pointerReads m + 1, 1) (rmwMem m f) := by
  intro s
  have address := Accesses.effectiveAddress .rmw m s
  simp [Machine.rmwMem, address, add_assoc]

theorem Accesses.targetInd (ptr : Word) : Accesses (2, 0) fun s => (targetInd ptr s).2 := by
  intro s
  simp [Machine.targetInd, add_assoc]

theorem Accesses.takeException (vector : Word) (b : Bool) :
    Accesses (2, 3) (takeException vector b) := by
  intro s
  simp [Machine.takeException, State.readVector, add_assoc]

theorem Accesses.returnFromException : Accesses (3, 0) returnFromException := by
  intro s
  simp [Machine.returnFromException, add_assoc]

theorem Accesses.callSubroutine (target : Word) : Accesses (0, 2) (callSubroutine target) := by
  intro s
  simp [Machine.callSubroutine, add_assoc]

theorem Accesses.returnFromSubroutine : Accesses (2, 0) returnFromSubroutine := by
  intro s
  simp [Machine.returnFromSubroutine, add_assoc]

theorem opAdc_bus (v : Byte) (s : State) : (opAdc v s).bus = s.bus := by
  rw [opAdc_state]

theorem branchShape_bus (cond : Bool) (off : Byte) (s : State) :
    (branchShape cond off s).bus = s.bus := by
  rw [branchShape_eq]

/-- The access table (20_memory.md R43) for the mode and the mnemonic of a row. -/
def rowAccesses (mode : Mode) (m : Mnemonic) : Nat × Nat :=
  let pointer := if mode = .indx ∨ mode = .indy ∨ mode = .ind then 2 else 0
  match m.shape with
  | .read => (pointer + if mode = .imm then 0 else 1, 0)
  | .rmw => if mode = .acc then (0, 0) else (1, 1)
  | .write => (pointer, 1)
  | .jump => (pointer, 0)
  | .stack =>
    match m with
    | .pha | .php => (0, 1)
    | .pla | .plp => (1, 0)
    | .jsr => (0, 2)
    | .rts => (2, 0)
    | .brk => (2, 3)
    | .rti => (3, 0)
    | _ => (0, 0)
  | .implied | .branch => (0, 0)

/-- The table looks at the row alone: a finite check, mnemonic by mnemonic and mode by mode. -/
theorem dataAccesses_eq_rowAccesses {i : Instr} {mode : Mode} {m : Mnemonic}
    (hmode : i.mode = some mode) (hm : i.mnemonic = some m) (hshape : i.shape = some m.shape) :
    dataAccesses i = rowAccesses mode m := by
  simp only [dataAccesses, rowAccesses, hmode, hm, hshape, Option.some.injEq]
  cases m <;> cases mode <;> rfl

/-- An instruction whose meaning is the operation `f` issues what the access table says, if `f` issues
what the table says of the instruction's row. -/
theorem Accesses.of_exec {n : Nat × Nat} {f : State → State} {i : Instr} {mode : Mode} {m : Mnemonic}
    {cycles : Nat} (he : ∀ s, exec i s = .next (f s)) (h : Accesses n f) (wf : i.wf = true)
    (row : Laws.DispatchRow.row i = some (mode, m, cycles)) (table : rowAccesses mode m = n)
    (s t : State) (ht : exec i s = .next t) :
    transactions t.bus = transactions s.bus + dataAccesses i := by
  obtain ⟨hmode, hm, hshape, -⟩ := Laws.DispatchRow.fields (dispatchRow i) wf row
  obtain rfl : f s = t := by simpa [he] using ht
  rw [dataAccesses_eq_rowAccesses hmode hm hshape, table]
  exact h s

/-- Execution issues as many reads and writes as the access table says: one case for each shape
template. In each, `exec` is the template by definition, the rule of the template counts, and the row of
the instruction and its entry in the table compute. -/
theorem exec_accesses (i : Instr) : ∀ s t, exec i s = .next t →
    transactions t.bus = transactions s.bus + dataAccesses i := by
  cases i with
  | ldaImm | ldxImm | ldyImm | oraImm | andImm | eorImm | sbcImm | cmpImm | cpxImm | cpyImm
  | aslAcc | lsrAcc | rolAcc | rorAcc
  | clc | cld | cli | clv | sec | sed | sei | nop | inx | iny | dex | dey
  | tax | tay | tsx | txa | txs | tya | jmpAbs =>
    exact Accesses.of_exec (fun _ => rfl) (.of_bus_eq fun _ => rfl) rfl rfl rfl
  | adcImm d8 => exact Accesses.of_exec (fun _ => rfl) (.of_bus_eq <| opAdc_bus d8) rfl rfl rfl
  | ldaZp | ldaZpx | ldaAbs | ldaAbsx | ldaAbsy | ldaIndx | ldaIndy
  | ldxZp | ldxZpy | ldxAbs | ldxAbsy | ldyZp | ldyZpx | ldyAbs | ldyAbsx
  | oraZp | oraZpx | oraAbs | oraAbsx | oraAbsy | oraIndx | oraIndy
  | andZp | andZpx | andAbs | andAbsx | andAbsy | andIndx | andIndy
  | eorZp | eorZpx | eorAbs | eorAbsx | eorAbsy | eorIndx | eorIndy
  | sbcZp | sbcZpx | sbcAbs | sbcAbsx | sbcAbsy | sbcIndx | sbcIndy
  | cmpZp | cmpZpx | cmpAbs | cmpAbsx | cmpAbsy | cmpIndx | cmpIndy
  | cpxZp | cpxAbs | cpyZp | cpyAbs | bitZp | bitAbs =>
    exact Accesses.of_exec (fun _ => rfl) (.readMem _ fun _ _ => rfl) rfl rfl rfl
  | adcZp | adcZpx | adcAbs | adcAbsx | adcAbsy | adcIndx | adcIndy =>
    exact Accesses.of_exec (fun _ => rfl) (.readMem _ opAdc_bus) rfl rfl rfl
  | incZp | incZpx | incAbs | incAbsx | decZp | decZpx | decAbs | decAbsx
  | aslZp | aslZpx | aslAbs | aslAbsx | lsrZp | lsrZpx | lsrAbs | lsrAbsx
  | rolZp | rolZpx | rolAbs | rolAbsx | rorZp | rorZpx | rorAbs | rorAbsx =>
    exact Accesses.of_exec (fun _ => rfl) (.rmwMem _ _) rfl rfl rfl
  | staZp | staZpx | staAbs | staAbsx | staAbsy | staIndx | staIndy
  | stxZp | stxZpy | stxAbs | styZp | styZpx | styAbs =>
    exact Accesses.of_exec (fun _ => rfl) (.writeMem _ _) rfl rfl rfl
  | pha | php => exact Accesses.of_exec (fun _ => rfl) (fun _ => transactions_write ..) rfl rfl rfl
  | pla | plp => exact Accesses.of_exec (fun _ => rfl) (fun _ => transactions_read ..) rfl rfl rfl
  | jsr target => exact Accesses.of_exec (fun _ => rfl) (.callSubroutine target) rfl rfl rfl
  | rts => exact Accesses.of_exec (fun _ => rfl) .returnFromSubroutine rfl rfl rfl
  | brk =>
    exact Accesses.of_exec (fun _ => rfl) (fun _ => Accesses.takeException irqVector true _) rfl rfl rfl
  | rti =>
    exact Accesses.of_exec (fun _ => rfl) (fun s => Accesses.returnFromException (s.tick 2)) rfl rfl rfl
  | jmpInd ptr => exact Accesses.of_exec (fun _ => rfl) (Accesses.targetInd ptr) rfl rfl rfl
  | bpl off | bmi off | bvc off | bvs off | bcc off | bcs off | bne off | beq off =>
    exact Accesses.of_exec (fun _ => rfl) (.of_bus_eq fun s => branchShape_bus _ off s) rfl rfl rfl
  | illegal => exact fun s t h => nomatch h

/-- Settles O55: the transactions that `exec_extends` finds are counted by `exec_accesses`, and memory
is what replaying them makes of it. -/
theorem transactionCounts : Obligations.TransactionCounts := by
  intro i s t h
  have grown := exec_extends i s
  rw [h, outcomeExtends_next] at grown
  obtain ⟨-, -, evs, bus, mem, -, -⟩ := grown
  have counts : transactions evs = dataAccesses i := by
    have total := exec_accesses i s t h
    rw [bus, transactions_append, add_comm] at total
    exact add_left_cancel total
  obtain ⟨reads, writes⟩ := Prod.ext_iff.mp counts
  refine ⟨⟨evs, bus, reads, writes, fun b away => ?_⟩, fun noWrite => ?_⟩
  · rw [mem, replay_read_of_not_written s away]
  · rw [mem, replay_of_no_write s]
    simpa [transactions, noWrite] using writes

end Sys2Proof.Machine
end

section
/-!
PROOFS for 30_encoding.md (O43, O46, O47, O48). Encoding goes from an instruction to its dispatch entry,
one case for each format of R61; decoding goes back through the entries of the matrix, each of which
builds instructions that encode to the entry's own opcode byte and the operand bytes they were built from.
-/

namespace Sys2Proof

/-! ### The bytes without an entry -/

theorem mem_illegalOpcodes_of_no_entry :
    ∀ op : Byte, (dispatchEntry op).isNone = true → op ∈ illegalOpcodes := by decide

/-- The bytes without a dispatch entry are those listed as illegal (R67). -/
theorem dispatchEntry_isNone_iff (op : Byte) :
    (dispatchEntry op).isNone = true ↔ op ∈ illegalOpcodes :=
  ⟨mem_illegalOpcodes_of_no_entry op,
    fun listed => Option.isNone_iff_eq_none.mpr (Laws.illegal_has_no_entry op listed)⟩

theorem Instr.wf_illegal_of_no_entry {op : Byte} (h : dispatchEntry op = none) :
    (Instr.illegal op).wf = true := by
  have listed : op ∈ illegalOpcodes :=
    mem_illegalOpcodes_of_no_entry op (Option.isNone_iff_eq_none.mpr h)
  simpa [Instr.wf] using listed

/-! ### From an instruction to its bytes and back -/

/-- Decoding an F3 opcode byte and the two bytes of an address gives that address as the operand. -/
theorem decode_address {op : Byte} {make : Word → Instr}
    (h : (dispatchEntry op).map DispatchEntry.build = some (.word make)) (a : Word)
    (rest : List Byte) : decode (op :: lowByte a :: highByte a :: rest) = .ok (make a, rest) := by
  rw [decode_word h, wordOf_high_low]

/-- The encoding of a well-formed instruction decodes to it, whatever follows: one case for each format
of R61, in which the entry of the instruction's opcode byte computes, and the illegal bytes. -/
theorem decode_encode_append (i : Instr) (rest : List Byte) (wf : i.wf = true) :
    decode (encode i ++ rest) = .ok (i, rest) := by
  cases i with
  | illegal op =>
    exact decode_illegal (Laws.illegal_has_no_entry op (by simpa [Instr.wf] using wf)) rest
  | aslAcc | lsrAcc | rolAcc | rorAcc
  | clc | cld | cli | clv | sec | sed | sei | nop | inx | iny | dex | dey
  | tax | tay | tsx | txa | txs | tya | pha | php | pla | plp | rts | brk | rti =>
    exact decode_none rfl rest
  | ldaImm | ldaZp | ldaZpx | ldaIndx | ldaIndy | ldxImm | ldxZp | ldxZpy | ldyImm | ldyZp | ldyZpx
  | oraImm | oraZp | oraZpx | oraIndx | oraIndy | andImm | andZp | andZpx | andIndx | andIndy
  | eorImm | eorZp | eorZpx | eorIndx | eorIndy | adcImm | adcZp | adcZpx | adcIndx | adcIndy
  | sbcImm | sbcZp | sbcZpx | sbcIndx | sbcIndy | cmpImm | cmpZp | cmpZpx | cmpIndx | cmpIndy
  | cpxImm | cpxZp | cpyImm | cpyZp | bitZp | incZp | incZpx | decZp | decZpx
  | aslZp | aslZpx | lsrZp | lsrZpx | rolZp | rolZpx | rorZp | rorZpx
  | staZp | staZpx | staIndx | staIndy | stxZp | stxZpy | styZp | styZpx
  | bpl | bmi | bvc | bvs | bcc | bcs | bne | beq =>
    exact decode_byte rfl _ rest
  | ldaAbs | ldaAbsx | ldaAbsy | ldxAbs | ldxAbsy | ldyAbs | ldyAbsx
  | oraAbs | oraAbsx | oraAbsy | andAbs | andAbsx | andAbsy | eorAbs | eorAbsx | eorAbsy
  | adcAbs | adcAbsx | adcAbsy | sbcAbs | sbcAbsx | sbcAbsy | cmpAbs | cmpAbsx | cmpAbsy
  | cpxAbs | cpyAbs | bitAbs | incAbs | incAbsx | decAbs | decAbsx
  | aslAbs | aslAbsx | lsrAbs | lsrAbsx | rolAbs | rolAbsx | rorAbs | rorAbsx
  | staAbs | staAbsx | staAbsy | stxAbs | styAbs | jsr | jmpAbs | jmpInd =>
    exact decode_address rfl _ rest

/-! ### From bytes to an instruction and back -/

/-- What an entry builds is well formed, and encodes as `op` and the operand bytes it was built from. -/
def Build.Encodes (op : Byte) : Build → Prop
  | .none i => i.wf = true ∧ encode i = [op]
  | .byte make => ∀ d, (make d).wf = true ∧ encode (make d) = [op, d]
  | .word make => ∀ a, (make a).wf = true ∧ encode (make a) = [op, lowByte a, highByte a]

/-- The opcode byte of what an entry builds, read off the operand 0. -/
def Build.opcode : Build → Byte
  | .none i => i.opcode
  | .byte make => (make 0).opcode
  | .word make => (make 0).opcode

/-- What an entry builds encodes as one opcode byte, the same for every operand, and that operand. -/
def EntryEncodes : Option DispatchEntry → Prop
  | none => True
  | some e => e.build.Encodes e.build.opcode

theorem opcodeMatrix_encodes : ∀ row ∈ opcodeMatrix, ∀ o ∈ row, EntryEncodes o := by
  simp only [opcodeMatrix, opcodeRow0, opcodeRow1, opcodeRow2, opcodeRow3, opcodeRow4, opcodeRow5,
    opcodeRow6, opcodeRow7, opcodeRow8, opcodeRow9, opcodeRowA, opcodeRowB, opcodeRowC, opcodeRowD,
    opcodeRowE, opcodeRowF, List.forall_mem_cons, List.not_mem_nil, false_imp_iff, implies_true]
  simp [EntryEncodes, Build.Encodes, Build.opcode, entry0, entry1, entry2, Instr.opcode, Instr.wf,
    encode]

/-- The matrix holds each entry in the place of its own opcode byte. -/
theorem dispatchEntry_opcode :
    ∀ op : Byte, ∀ e ∈ dispatchEntry op, e.build.opcode = op := by decide

theorem dispatchEntry_encodes {op : Byte} {b : Build}
    (h : (dispatchEntry op).map DispatchEntry.build = some b) : b.Encodes op := by
  obtain ⟨e, found, rfl⟩ := Option.map_eq_some_iff.mp h
  have row := Machine.forall_getD opcodeMatrix_encodes (d := []) (by simp) (op.toNat / 16)
  have encodes : EntryEncodes (dispatchEntry op) :=
    Machine.forall_getD row (d := none) trivial (op.toNat % 16)
  rw [found] at encodes
  rwa [EntryEncodes, dispatchEntry_opcode op e found] at encodes

/-- What the decoder accepts is well formed and encodes to the bytes it took: one case for each format
of R61 and one for the illegal bytes. -/
theorem encode_append_of_decode {bytes rest : List Byte} {i : Instr}
    (h : decode bytes = .ok (i, rest)) : i.wf = true ∧ encode i ++ rest = bytes := by
  cases bytes with
  | nil => cases h
  | cons op tail =>
    cases hb : (dispatchEntry op).map DispatchEntry.build with
    | none =>
      have no_entry := Option.map_eq_none_iff.mp hb
      rw [decode_illegal no_entry] at h
      cases h
      exact ⟨Instr.wf_illegal_of_no_entry no_entry, rfl⟩
    | some b =>
      have encodes := dispatchEntry_encodes hb
      cases b with
      | none j =>
        rw [decode_none hb] at h
        cases h
        obtain ⟨wf, code⟩ := encodes
        exact ⟨wf, by rw [code]; rfl⟩
      | byte make =>
        obtain _ | ⟨d, tail⟩ := tail
        · simp [decode, hb] at h
        · rw [decode_byte hb] at h
          cases h
          obtain ⟨wf, code⟩ := encodes d
          exact ⟨wf, by rw [code]; rfl⟩
      | word make =>
        obtain _ | ⟨lo, _ | ⟨hi, tail⟩⟩ := tail
        · simp [decode, hb] at h
        · simp [decode, hb] at h
        · rw [decode_word hb] at h
          cases h
          obtain ⟨wf, code⟩ := encodes (wordOf hi lo)
          exact ⟨wf, by rw [code, lowByte_wordOf, highByte_wordOf]; rfl⟩

/-- An instruction takes three bytes at the most (R60), so the decoder accepts any three. -/
theorem decode_three_bytes (a b c : Byte) (rest : List Byte) :
    ∃ i r, decode (a :: b :: c :: rest) = .ok (i, r) := by
  cases h : (dispatchEntry a).map DispatchEntry.build with
  | none => exact ⟨_, _, decode_illegal (Option.map_eq_none_iff.mp h) _⟩
  | some build =>
    cases build with
    | none i => exact ⟨_, _, decode_none h _⟩
    | byte make => exact ⟨_, _, decode_byte h _ _⟩
    | word make => exact ⟨_, _, decode_word h _ _ _⟩

end Sys2Proof

namespace Sys2Proof.Machine

/-- Settles O47: the entry of the instruction's opcode byte rebuilds it from its operand bytes. -/
theorem decodeEncodeRoundTrip : Obligations.DecodeEncodeRoundTrip :=
  decode_encode_append

/-- Settles O48: what an entry of the matrix builds encodes back, and no entry takes more than two
operand bytes. -/
theorem decodedBytesEncodeBack : Obligations.DecodedBytesEncodeBack :=
  ⟨fun _ _ _ => encode_append_of_decode, decode_three_bytes⟩

/-- Settles O43: the matrix against the list, and the list against the nibble description, byte by
byte. -/
theorem illegalBytes : Obligations.IllegalBytes :=
  ⟨rfl, dispatchEntry_isNone_iff,
    fun op => (dispatchEntry_isNone_iff op).symm.trans (by revert op; decide)⟩

/-- Settles O46: each word of the spec is decoded by computation. -/
theorem decodeSpecWords : Obligations.DecodeSpecWords :=
  ⟨rfl, rfl, rfl, rfl, rfl, rfl, rfl, rfl, rfl, rfl, rfl, rfl, rfl, rfl, rfl, rfl, rfl, rfl⟩

end Sys2Proof.Machine
end

section
/-!
PROOFS for 40_addressing_modes.md (O9 to O15). Each bus operation of the resolver is one equation for
what it answers and leaves; the page-crossing rule is arithmetic on the two bytes of an address; the
modes are assembled from the two.
-/

namespace Sys2Proof

/-! ### The two bytes of an address as numbers -/

theorem toNat_lowByte (a : Word) : (lowByte a).toNat = a.toNat % 256 := by
  simp [lowByte]

theorem toNat_highByte (a : Word) : (highByte a).toNat = a.toNat / 256 := by
  have ha := a.isLt
  simp only [highByte, BitVec.extractLsb'_toNat, Nat.shiftRight_eq_div_pow]
  omega

/-- Masking out the low byte gives the first address of the page. -/
theorem and_page_eq (a : Word) : a &&& 0xFF00 = wordOf (highByte a) 0 := by
  have mask : (0xFF00 : Word) = BitVec.allOnes 8 ++ 0#8 := rfl
  calc a &&& 0xFF00
    _ = (highByte a ++ lowByte a) &&& (BitVec.allOnes 8 ++ 0#8) := by
      rw [← mask, ← wordOf, wordOf_high_low]
    _ = highByte a ++ 0#8 := by rw [BitVec.and_append, BitVec.and_allOnes, BitVec.and_zero]

end Sys2Proof

namespace Sys2Proof.Machine

/-! ### The page-crossing rule (R87) -/

theorem crossed_iff (base : Word) (index : Byte) :
    crossed base index = true ↔ 0xFF < base.toNat % 256 + index.toNat := by
  rw [crossed, decide_eq_true_iff, toNat_lowByte]

theorem crossed_zero (base : Word) : crossed base 0 = false := by
  have zero : (0 : Byte).toNat = 0 := rfl
  rw [Bool.eq_false_iff, Ne, crossed_iff, zero]
  omega

/-- A carry out of the low byte is a change of page, also where the sum wraps at 0xFFFF (R94). -/
theorem crossed_iff_highByte_ne (base : Word) (index : Byte) :
    crossed base index = true ↔ highByte (base + index.setWidth 16) ≠ highByte base := by
  have hb := base.isLt
  have hi := index.isLt
  rw [crossed_iff, Ne, BitVec.toNat_eq, toNat_highByte, toNat_highByte, BitVec.toNat_add,
    BitVec.toNat_setWidth]
  omega

/-- The ticks of the page-crossing rule, in the claims' words. -/
def crossingTicks (access : Access) (base : Word) (index : Byte) : Nat :=
  match access with
  | .read => if 0xFF < (lowByte base).toNat + index.toNat then 1 else 0
  | .write => 1
  | .rmw => 1

theorem crossingTick_eq_tick (access : Access) (base : Word) (index : Byte) (s : State) :
    crossingTick access base index s = s.tick (crossingTicks access base index) := by
  cases access with
  | read =>
    by_cases h : 0xFF < (lowByte base).toNat + index.toNat <;>
      simp [crossingTick, crossingTicks, crossed, h]
  | write => rfl
  | rmw => rfl

/-- A read that crosses takes as many ticks as a write, one that does not takes one less. -/
theorem ticks_add_penalty_add_complement (ticks : Nat) (crosses : Bool) :
    ticks + (if crosses then 1 else 0) + (if crosses then 0 else 1) = ticks + 1 := by
  cases crosses <;> rfl

/-- Settles O13: `crossed` is a carry between the two bytes of the sum; of the ticks of a mode, only
the page-crossing tick depends on the shape. -/
theorem pageCrossingRule : Obligations.PageCrossingRule := by
  refine ⟨fun base index =>
    ⟨crossed_iff base index, crossed_zero base, crossed_iff_highByte_ne base index⟩, fun m s => ?_⟩
  simp only [effectiveAddress_read_cycles, effectiveAddress_write_cycles,
    effectiveAddress_rmw_cycles, true_and]
  cases m with
  | zp | zpx | zpy | abs | indx => rfl
  | absx | absy | indy => exact ticks_add_penalty_add_complement _ _

/-! ### Bus operations of the resolver -/

theorem State.fetch8_eq (s : State) :
    s.fetch8 =
      (s.busAnswer s.pc,
        { s with
          pc := s.pc + 1
          cycles := s.cycles + 1
          bus := readOf s.pc (s.busAnswer s.pc) :: s.bus }) := rfl

theorem State.fetch16_eq (s : State) :
    s.fetch16 = (wordOf s.fetch8.2.fetch8.1 s.fetch8.1, s.fetch8.2.fetch8.2) := rfl

/-- Two reads, the low byte first, each answered on the record as it then stands: what `targetInd` and
`zeroPagePointer` are by definition. -/
theorem readWord_eq (a b : Word) (s : State) :
    (wordOf ((s.memRead a).2.memRead b).1 (s.memRead a).1, ((s.memRead a).2.memRead b).2) =
      let lo := s.busAnswer a
      let hi := ({ s with bus := readOf a lo :: s.bus } : State).busAnswer b
      (wordOf hi lo,
        { s with cycles := s.cycles + 2, bus := readOf b hi :: readOf a lo :: s.bus }) := rfl

/-! ### JMP (indirect) (R90) -/

/-- The address of the second pointer byte: the one after the first, within the pointer's page. -/
theorem nextInPage_eq (ptr : Word) :
    wordOf (highByte ptr) (lowByte ptr + 1) =
      if lowByte ptr = 0xFF then ptr &&& 0xFF00 else ptr + 1 := by
  split
  · next last =>
    rw [and_page_eq, last]
    rfl
  · next inside =>
    have inside : ptr.toNat % 256 ≠ 255 := fun h =>
      inside (BitVec.eq_of_toNat_eq ((toNat_lowByte ptr).trans h))
    have hp := ptr.isLt
    have one : (1 : Byte).toNat = 1 ∧ (1 : Word).toNat = 1 := ⟨rfl, rfl⟩
    apply BitVec.eq_of_toNat_eq
    rw [toNat_wordOf, toNat_highByte, BitVec.toNat_add, BitVec.toNat_add, toNat_lowByte, one.1, one.2]
    omega

/-- Settles O14: two reads, the second at the address after the pointer within the pointer's page. -/
theorem jmpPointerTarget : Obligations.JmpPointerTarget := by
  intro s
  simp only [← nextInPage_eq]
  exact readWord_eq _ _ _

/-! ### The branch target (R91) -/

/-- Adding a sign-extended byte to an address adds its two's complement reading modulo 65536. -/
theorem toNat_add_signExtend (a : Word) (off : Byte) :
    ((a + off.signExtend 16).toNat : Int) = (a.toNat + off.toInt) % 65536 := by
  rw [BitVec.toNat_add, BitVec.signExtend, BitVec.toNat_ofInt]
  omega

/-- The two's complement reading of a byte. -/
theorem byte_toInt (b : Byte) :
    b.toInt = if b.toNat < 0x80 then (b.toNat : Int) else (b.toNat : Int) - 256 := by
  rw [BitVec.toInt_eq_toNat_cond]
  split <;> split <;> omega

/-- Settles O15: the target is the address after the offset byte plus the offset's signed reading. -/
theorem branchTargetIsSigned : Obligations.BranchTargetIsSigned :=
  fun _ => ⟨rfl, rfl, rfl, toNat_add_signExtend _ _, byte_toInt _⟩

/-! ### Fetching through PC (R80) -/

/-- Settles O9: Fetch16 is Fetch8 twice, and `hi:lo` is read in base 256. -/
theorem fetchThroughPC : Obligations.FetchThroughPC :=
  fun s => ⟨s.fetch8_eq, s.fetch16_eq, toNat_wordOf _ _, by decide⟩

/-! ### The modes in page 0 (R83, R84) -/

theorem toNat_zeroPage (z : Byte) : (zeroPage z).toNat = z.toNat :=
  BitVec.toNat_setWidth_of_le (by decide)

/-- The indexed address wraps within page 0. -/
theorem toNat_zeroPage_add (z index : Byte) :
    (zeroPage (z + index)).toNat = (z.toNat + index.toNat) % 256 := by
  rw [toNat_zeroPage, BitVec.toNat_add]

/-- Settles O10: the address is the zero-extended sum of two bytes, which is below 256. -/
theorem zeroPageModes : Obligations.ZeroPageModes :=
  fun _ _ => ⟨rfl, rfl, rfl, toNat_zeroPage _, toNat_zeroPage_add _ _, toNat_zeroPage_add _ _⟩

/-! ### The indexed and the indirect modes (R85, R86, R88, R89) -/

/-- What the modes with an index leave: the sum modulo 65536, and the crossing tick alone. -/
theorem indexed_crossingTick (access : Access) (base : Word) (index : Byte) (s : State) :
    (indexed base index, crossingTick access base index s) =
      (base + index.setWidth 16,
        { s with cycles := s.cycles + crossingTicks access base index }) := by
  rw [crossingTick_eq_tick]
  rfl

/-- Settles O11: after the two fetches, the indexed modes do the addition and pay its tick. -/
theorem absoluteModes : Obligations.AbsoluteModes :=
  fun access s => ⟨rfl, indexed_crossingTick access _ s.x _, indexed_crossingTick access _ s.y _⟩

/-- Settles O12: both modes read their pointer in page 0; indy then does the addition of absy. -/
theorem indirectModes : Obligations.IndirectModes :=
  fun access s => ⟨readWord_eq _ _ _, indexed_crossingTick access _ s.y _⟩

end Sys2Proof.Machine
end

section
/-!
PROOFS for 41_load_logic_compare.md (O16 to O19). What the Operation of a mnemonic does is said once, as
its result; the two read shapes then give every form of the mnemonic its `ImmForm` or `ReadForm`, of
which the opcode bytes, the instruction's arm and the ticks of the mode are left to computation.
-/

namespace Sys2Proof.Machine

/-! ### Operations of the read shape and their forms (R100) -/

/-- The Operation `op` does `g`, which neither reads nor changes the ticks and the bus record. -/
structure HasResult (op g : Byte → State → State) : Prop where
  result : ∀ v s, op v s = g v s
  untimed : ∀ v s c b, g v { s with cycles := c, bus := b } = { g v s with cycles := c, bus := b }

theorem HasResult.immForm {op g : Byte → State → State} (h : HasResult op g) {code : List Byte}
    {i : Instr} {v : Byte} {s : State} (encoding : encode i = code)
    (arm : exec i s = .next (readImm v op s)) : ImmForm code i v g s :=
  ⟨encoding, by rw [arm, readImm, h.result]⟩

theorem HasResult.readForm {op g : Byte → State → State} (h : HasResult op g) {code : List Byte}
    {ticks : Nat} {i : Instr} {m : MemOperand} {s : State} (encoding : encode i = code)
    (arm : exec i s = .next (readMem m op s)) (hticks : ticks - code.length = modeTicks m + 1) :
    ReadForm code ticks i m g s :=
  ⟨encoding, by rw [arm, readMem_eq, h.result, afterOperand, h.untimed, hticks, readOf]⟩

/-! ### The results of the Operations (R101 to R111) -/

/-- LDA, ORA, AND and EOR put a byte made from A and the operand into A. -/
theorem HasResult.loadA (r : Byte → Byte → Byte) :
    HasResult (fun v s => s.loadA (r s.a v))
      (fun v s => { s with a := r s.a v, flags := nz (r s.a v) s.flags }) where
  result v s := by rw [State.loadA, setNZ_eq_nz]
  untimed _ _ _ _ := rfl

theorem HasResult.opLdx :
    HasResult opLdx (fun v s => { s with x := v, flags := nz v s.flags }) where
  result v s := by rw [Machine.opLdx, State.loadX, setNZ_eq_nz]
  untimed _ _ _ _ := rfl

theorem HasResult.opLdy :
    HasResult opLdy (fun v s => { s with y := v, flags := nz v s.flags }) where
  result v s := by rw [Machine.opLdy, State.loadY, setNZ_eq_nz]
  untimed _ _ _ _ := rfl

/-- `Compare` (R111), for the register that `r` reads. -/
theorem HasResult.compare {r : State → Byte}
    (hr : ∀ s c b, r { s with cycles := c, bus := b } = r s) :
    HasResult (fun v s => s.setFlags (Flags.compare (r s) v))
      (fun v s =>
        { s with flags := nz (r s - v) { s.flags with c := decide (v.toNat ≤ (r s).toNat) } }) where
  result v s := by rw [State.setFlags, Flags.compare, setNZ_eq_nz]
  untimed v s c b := by simp only [hr]

/-- BIT takes N and V from the operand, not from the conjunction (R110). -/
theorem HasResult.opBit :
    HasResult opBit (fun v s => { s with flags :=
      { s.flags with z := decide (s.a &&& v = 0), n := v.getLsbD 7, v := v.getLsbD 6 } }) where
  result _ _ := rfl
  untimed _ _ _ _ := rfl

/-! ### Every form of each mnemonic -/

/-- Settles O16: LDA, LDX and LDY by their results, in the modes of R101, R102 and R103. -/
theorem loadResults : Obligations.LoadResults := by
  intro s z w lda ldx ldy
  have hlda : HasResult opLda lda := .loadA fun _ v => v
  have hldx : HasResult opLdx ldx := .opLdx
  have hldy : HasResult opLdy ldy := .opLdy
  exact
    ⟨hlda.immForm rfl rfl, hlda.readForm rfl rfl rfl, hlda.readForm rfl rfl rfl,
      hlda.readForm rfl rfl rfl, hlda.readForm rfl rfl rfl, hlda.readForm rfl rfl rfl,
      hlda.readForm rfl rfl rfl, hlda.readForm rfl rfl rfl,
      hldx.immForm rfl rfl, hldx.readForm rfl rfl rfl, hldx.readForm rfl rfl rfl,
      hldx.readForm rfl rfl rfl, hldx.readForm rfl rfl rfl,
      hldy.immForm rfl rfl, hldy.readForm rfl rfl rfl, hldy.readForm rfl rfl rfl,
      hldy.readForm rfl rfl rfl, hldy.readForm rfl rfl rfl⟩

/-- Settles O17: ORA, AND and EOR by their results, in the modes of R104, R105 and R106. -/
theorem logicResults : Obligations.LogicResults := by
  intro s z w ora and eor
  have hora : HasResult opOra ora := .loadA fun a v => a ||| v
  have hand : HasResult opAnd and := .loadA fun a v => a &&& v
  have heor : HasResult opEor eor := .loadA fun a v => a ^^^ v
  exact
    ⟨hora.immForm rfl rfl, hora.readForm rfl rfl rfl, hora.readForm rfl rfl rfl,
      hora.readForm rfl rfl rfl, hora.readForm rfl rfl rfl, hora.readForm rfl rfl rfl,
      hora.readForm rfl rfl rfl, hora.readForm rfl rfl rfl,
      hand.immForm rfl rfl, hand.readForm rfl rfl rfl, hand.readForm rfl rfl rfl,
      hand.readForm rfl rfl rfl, hand.readForm rfl rfl rfl, hand.readForm rfl rfl rfl,
      hand.readForm rfl rfl rfl, hand.readForm rfl rfl rfl,
      heor.immForm rfl rfl, heor.readForm rfl rfl rfl, heor.readForm rfl rfl rfl,
      heor.readForm rfl rfl rfl, heor.readForm rfl rfl rfl, heor.readForm rfl rfl rfl,
      heor.readForm rfl rfl rfl, heor.readForm rfl rfl rfl⟩

/-- Settles O18: CMP, CPX and CPY by `Compare` on their register, in the modes of R107 to R109. -/
theorem compareResults : Obligations.CompareResults := by
  intro s z w compare cmp cpx cpy
  have hcmp : HasResult opCmp cmp := .compare (r := State.a) fun _ _ _ => rfl
  have hcpx : HasResult opCpx cpx := .compare (r := State.x) fun _ _ _ => rfl
  have hcpy : HasResult opCpy cpy := .compare (r := State.y) fun _ _ _ => rfl
  exact
    ⟨hcmp.immForm rfl rfl, hcmp.readForm rfl rfl rfl, hcmp.readForm rfl rfl rfl,
      hcmp.readForm rfl rfl rfl, hcmp.readForm rfl rfl rfl, hcmp.readForm rfl rfl rfl,
      hcmp.readForm rfl rfl rfl, hcmp.readForm rfl rfl rfl,
      hcpx.immForm rfl rfl, hcpx.readForm rfl rfl rfl, hcpx.readForm rfl rfl rfl,
      hcpy.immForm rfl rfl, hcpy.readForm rfl rfl rfl, hcpy.readForm rfl rfl rfl⟩

/-- Settles O19: BIT by its result, in the two modes of R110. -/
theorem bitResults : Obligations.BitResults :=
  fun _ _ _ => ⟨HasResult.opBit.readForm rfl rfl rfl, HasResult.opBit.readForm rfl rfl rfl⟩

end Sys2Proof.Machine
end

section
/-!
PROOFS for 42_adc_sbc.md (O20 to O24). The binary adder is said by its three outputs, as naturals and as
signed numbers; SBC's meaning as a subtraction is that law at the complemented operand. The decimal
adjustments are said digit by digit: the low digit first, with its carry or borrow, then the byte.
-/

namespace Sys2Proof.Machine

/-! ### The binary adder (R117) -/

theorem getLsbD_seven (b : Byte) : b.getLsbD 7 = decide (0x80 ≤ b.toNat) :=
  (BitVec.msb_eq_getLsbD_last b).symm.trans (BitVec.msb_eq_decide b)

/-- The overflow bit of R117 and R118 for operands `a`, `m` and sum `r`: equal signs in, the other out. -/
theorem overflowBit_eq (a m r : Byte) :
    ((a ^^^ r) &&& (m ^^^ r)).getLsbD 7 =
      (decide (a.getLsbD 7 = m.getLsbD 7) && decide (r.getLsbD 7 ≠ a.getLsbD 7)) := by
  rw [BitVec.getLsbD_and, BitVec.getLsbD_xor, BitVec.getLsbD_xor]
  cases a.getLsbD 7 <;> cases m.getLsbD 7 <;> cases r.getLsbD 7 <;> rfl

theorem toNat_addBin (a m : Byte) (c : Bool) :
    (addBin a m c).1.toNat = (a.toNat + m.toNat + c.toNat) % 256 :=
  BitVec.toNat_ofNat ..

theorem addBin_carry_iff (a m : Byte) (c : Bool) :
    (addBin a m c).2.1 = true ↔ 255 < a.toNat + m.toNat + c.toNat := by
  have hc := c.toNat_lt
  simp only [addBin, Nat.testBit_eq_decide_div_mod_eq, decide_eq_true_eq]
  omega

theorem addBin_overflow_iff_signs (a m : Byte) (c : Bool) :
    (addBin a m c).2.2 = true ↔
      a.getLsbD 7 = m.getLsbD 7 ∧ (addBin a m c).1.getLsbD 7 ≠ a.getLsbD 7 := by
  have hv : (addBin a m c).2.2 = _ := overflowBit_eq a m (addBin a m c).1
  rw [hv, Bool.and_eq_true, decide_eq_true_iff, decide_eq_true_iff]

theorem addBin_overflow_iff_range (a m : Byte) (c : Bool) :
    (addBin a m c).2.2 = true ↔
      a.toInt + m.toInt + c.toNat < -128 ∨ 127 < a.toInt + m.toInt + c.toNat := by
  have hc := c.toNat_lt
  have hr := toNat_addBin a m c
  rw [addBin_overflow_iff_signs]
  simp only [getLsbD_seven, byte_toInt, ne_eq, decide_eq_decide, hr]
  omega

/-- Settles O22: the outputs of `AddBin`, and V by either reading of R117. -/
theorem binaryAdderLaw : Obligations.BinaryAdderLaw := fun a m c =>
  ⟨toNat_addBin a m c, addBin_carry_iff a m c, addBin_overflow_iff_range a m c, rfl,
    addBin_overflow_iff_signs a m c⟩

/-! ### Subtraction as addition of the complement (R116) -/

theorem toNat_complement (v : Byte) : ((~~~v).toNat : Int) = 255 - v.toNat := by
  rw [BitVec.toNat_not]
  omega

theorem toInt_complement (v : Byte) : (~~~v).toInt = -v.toInt - 1 := by
  have hv := toNat_complement v
  rw [byte_toInt, byte_toInt]
  omega

/-- The carry in is the not-borrow in. -/
theorem toNat_carry (c : Bool) : (c.toNat : Int) = 1 - if c then 0 else 1 := by
  cases c <;> rfl

/-- The outputs of `AddBin(a, ~v, c)` as those of the difference `a - v - borrow`. -/
theorem addBin_complement (a v : Byte) (c : Bool) :
    let borrow : Int := if c then 0 else 1
    ((addBin a (~~~v) c).1.toNat : Int) = ((a.toNat : Int) - v.toNat - borrow) % 256 ∧
      ((addBin a (~~~v) c).2.1 = true ↔ 0 ≤ (a.toNat : Int) - v.toNat - borrow) ∧
      ((addBin a (~~~v) c).2.2 = true ↔
        a.toInt - v.toInt - borrow < -128 ∨ 127 < a.toInt - v.toInt - borrow) := by
  intro borrow
  have hv := toNat_complement v
  have hc : (c.toNat : Int) = 1 - borrow := toNat_carry c
  have hr := toNat_addBin a (~~~v) c
  have hcarry := addBin_carry_iff a (~~~v) c
  have hover := addBin_overflow_iff_range a (~~~v) c
  have hs := toInt_complement v
  refine ⟨by omega, hcarry.trans (by omega), hover.trans ?_⟩
  rw [hs, hc]
  omega

/-! ### ADC and SBC in every mode (R115, R116) -/

/-- ADC by the adder of the mode that D selects. -/
theorem HasResult.opAdc :
    HasResult opAdc (fun v s =>
      if s.flags.d then { s with a := (addDec s.a v s.flags).1, flags := (addDec s.a v s.flags).2 }
      else
        let sum := addBin s.a v s.flags.c
        { s with a := sum.1, flags := nz sum.1 { s.flags with c := sum.2.1, v := sum.2.2 } }) where
  result v s := by simp only [Machine.opAdc, setNZ_eq_nz]
  untimed v s c b := by
    cases hd : s.flags.d <;> simp only [hd] <;> rfl

/-- SBC by `AddBin(A, ~v, C)`, with the accumulator of the mode that D selects. -/
theorem HasResult.opSbc :
    HasResult opSbc (fun v s =>
      let sum := addBin s.a (~~~v) s.flags.c
      { s with
        a := if s.flags.d then subDec s.a v s.flags.c else sum.1
        flags := nz sum.1 { s.flags with c := sum.2.1, v := sum.2.2 } }) where
  result v s := by simp only [Machine.opSbc, setNZ_eq_nz]
  untimed _ _ _ _ := rfl

/-- Settles O20: ADC by its result, in the modes of R115. -/
theorem adcResults : Obligations.AdcResults := by
  intro s z w adc
  have hadc : HasResult opAdc adc := .opAdc
  exact
    ⟨hadc.immForm rfl rfl, hadc.readForm rfl rfl rfl, hadc.readForm rfl rfl rfl,
      hadc.readForm rfl rfl rfl, hadc.readForm rfl rfl rfl, hadc.readForm rfl rfl rfl,
      hadc.readForm rfl rfl rfl, hadc.readForm rfl rfl rfl⟩

/-- Settles O21: SBC by its result, in the modes of R116, and `addBin_complement` for its meaning. -/
theorem sbcResults : Obligations.SbcResults := by
  intro s z w sbc
  have hsbc : HasResult opSbc sbc := .opSbc
  exact
    ⟨hsbc.immForm rfl rfl, hsbc.readForm rfl rfl rfl, hsbc.readForm rfl rfl rfl,
      hsbc.readForm rfl rfl rfl, hsbc.readForm rfl rfl rfl, hsbc.readForm rfl rfl rfl,
      hsbc.readForm rfl rfl rfl, hsbc.readForm rfl rfl rfl, addBin_complement⟩

/-! ### Decimal addition (R118) -/

theorem ite_le_eq_ite_lt {α β : Type} [LinearOrder α] (a b : α) [Decidable (a ≤ b)]
    [Decidable (b < a)] (x y : β) : (if a ≤ b then x else y) = if b < a then y else x := by
  rw [← ite_not (a ≤ b)]
  simp only [not_le]

theorem ofNat_beq_zero (n : Nat) : (BitVec.ofNat 8 n == 0x00) = decide (n % 256 = 0) := by
  rw [Bool.eq_iff_iff, beq_iff_eq, decide_eq_true_iff, ← BitVec.toNat_inj, BitVec.toNat_ofNat]
  rfl

theorem getLsbD_seven_ofNat (n : Nat) : (BitVec.ofNat 8 n).getLsbD 7 = n.testBit 7 := by
  rw [BitVec.getLsbD_ofNat]
  rfl

/-- The sum of the low digits, before its adjustment. -/
def lowSum (a v : Byte) (c : Bool) : Nat := a.toNat % 16 + v.toNat % 16 + c.toNat

/-- On decimal digits the low adjustment carries ten as sixteen. -/
theorem addDecLow_digits {a v : Byte} (c : Bool) (ha : a.toNat % 16 < 10) (hv : v.toNat % 16 < 10) :
    addDecLow a v c = lowSum a v c / 10 * 16 + lowSum a v c % 10 := by
  have hc := c.toNat_lt
  simp only [addDecLow, lowSum]
  split <;> omega

/-- The high adjustment of a two-digit sum: the tens digit is reduced and its carry leaves the byte. -/
theorem adjustHigh_add {high units : Nat} (hhigh : high < 20) (hunits : units < 10) :
    let t := high * 16 + units
    let u := if 160 ≤ t then t + 96 else t
    u % 256 = high % 10 * 16 + units ∧ (decide (256 ≤ u)).toNat = high / 10 := by
  simp only [Bool.toNat, Bool.cond_decide]
  rcases lt_or_ge high 10 with h | h
  · simp only [if_neg (show ¬160 ≤ high * 16 + units by omega)]
    split <;> omega
  · simp only [if_pos (show 160 ≤ high * 16 + units by omega)]
    split <;> omega

/-- The digits of a decimal sum, and its carry as the hundreds digit. -/
theorem addDec_digits {a v : Byte} (f : Flags) (hal : a.toNat % 16 < 10) (hah : a.toNat / 16 < 10)
    (hvl : v.toNat % 16 < 10) (hvh : v.toNat / 16 < 10) :
    let high := a.toNat / 16 + v.toNat / 16 + lowSum a v f.c / 10
    (addDec a v f).1.toNat = high % 10 * 16 + lowSum a v f.c % 10 ∧
      (addDec a v f).2.c.toNat = high / 10 := by
  intro high
  have hhigh : high < 20 := by
    have hc := f.c.toNat_lt
    unfold high lowSum
    omega
  have ht : a.toNat / 16 * 16 + v.toNat / 16 * 16 + addDecLow a v f.c =
      high * 16 + lowSum a v f.c % 10 := by
    rw [addDecLow_digits f.c hal hvl]
    omega
  simp only [addDec, ht, BitVec.toNat_ofNat]
  exact adjustHigh_add hhigh (Nat.mod_lt _ (by decide))

/-- Settles O23: the rule's computation branch by branch, and `addDec_digits` on valid digits. -/
theorem decimalAdditionLaw : Obligations.DecimalAdditionLaw := by
  constructor
  · intro a v f
    simp only [addDec, addDecLow, ite_le_eq_ite_lt, overflowBit_eq, getLsbD_seven_ofNat,
      ofNat_beq_zero]
  · intro a v f hal hah hvl hvh
    obtain ⟨hr, hc⟩ := addDec_digits f hal hah hvl hvh
    dsimp only
    rw [hc, hr]
    unfold lowSum
    omega

/-! ### Decimal subtraction (R119) -/

/-- The difference of the low digits, before its adjustment. -/
def lowDifference (a v : Byte) (c : Bool) : Int :=
  (a.toNat % 16 : Nat) - (v.toNat % 16 : Nat) + c.toNat - 1

/-- On decimal digits the low adjustment borrows ten as sixteen. -/
theorem subDecLow_digits {a v : Byte} (c : Bool) (ha : a.toNat % 16 < 10) (hv : v.toNat % 16 < 10) :
    subDecLow a v c = lowDifference a v c / 10 * 16 + lowDifference a v c % 10 := by
  have hc := c.toNat_lt
  simp only [subDecLow, lowDifference]
  split <;> omega

theorem toNat_subDec (a v : Byte) (c : Bool) :
    let t : Int := (a.toNat / 16 * 16 : Nat) - (v.toNat / 16 * 16 : Nat) + subDecLow a v c
    ((subDec a v c).toNat : Int) = (if t < 0 then t - 96 else t) % 256 := by
  rw [subDec, BitVec.toNat_ofInt]
  exact Int.toNat_of_nonneg (Int.emod_nonneg _ (by decide))

/-- The high adjustment of a two-digit difference: the tens digit is reduced modulo 10. -/
theorem adjustHigh_sub {high units : Int} (hlow : -10 ≤ high) (hhigh : high < 10) (h0 : 0 ≤ units)
    (hunits : units < 10) :
    let t := high * 16 + units
    (if t < 0 then t - 96 else t) % 256 = high % 10 * 16 + units := by
  rcases lt_or_ge high 0 with h | h
  · simp only [if_pos (show high * 16 + units < 0 by omega)]
    omega
  · simp only [if_neg (show ¬high * 16 + units < 0 by omega)]
    omega

/-- The digits of a decimal difference modulo 100. -/
theorem subDec_digits {a v : Byte} (c : Bool) (hal : a.toNat % 16 < 10) (hah : a.toNat / 16 < 10)
    (hvl : v.toNat % 16 < 10) (hvh : v.toNat / 16 < 10) :
    let high : Int := (a.toNat / 16 : Nat) - (v.toNat / 16 : Nat) + lowDifference a v c / 10
    ((subDec a v c).toNat : Int) = high % 10 * 16 + lowDifference a v c % 10 := by
  intro high
  have hrange : -10 ≤ high ∧ high < 10 := by
    have hc := c.toNat_lt
    unfold high lowDifference
    omega
  have ht : ((a.toNat / 16 * 16 : Nat) : Int) - (v.toNat / 16 * 16 : Nat) + subDecLow a v c =
      high * 16 + lowDifference a v c % 10 := by
    rw [subDecLow_digits c hal hvl]
    omega
  rw [toNat_subDec, ht]
  exact adjustHigh_sub hrange.1 hrange.2 (Int.emod_nonneg _ (by decide))
    (Int.emod_lt_of_pos _ (by decide))

/-- Settles O24: the rule's computation branch by branch, `subDec_digits` on valid digits, and
`addBin_complement` for the not-borrow. -/
theorem decimalSubtractionLaw : Obligations.DecimalSubtractionLaw := by
  constructor
  · intro a v c
    simp only [toNat_subDec, subDecLow, ← ite_le_eq_ite_lt]
  · intro a v c hal hah hvl hvh
    have hr := subDec_digits c hal hah hvl hvh
    have hc := toNat_carry c
    obtain ⟨-, hcarry, -⟩ := addBin_complement a v c
    dsimp only
    rw [hcarry]
    unfold lowDifference at hr
    omega

end Sys2Proof.Machine
end

section
/-!
PROOFS for 43_rmw.md (O25 to O28). The two read-modify-write shapes give every form of a mnemonic its
`RmwForm` or `RmwAccForm`, of which the opcode bytes, the instruction's arm and the ticks of the mode are
left to computation. A rotation turns the ring of nine bits made of the byte and C, and nine turns of
that ring are none.
-/

namespace Sys2Proof.Machine

/-! ### The forms of the read-modify-write shape (R125) -/

section

variable {code : List Byte} {ticks : Nat} {i : Instr} {m : MemOperand}
  {f g : Byte → Flags → Byte × Flags} {s : State}
variable (result : ∀ v fl, f v fl = g v fl) (encoding : encode i = code)
include result encoding

theorem rmwForm (arm : exec i s = .next (rmwMem m f s))
    (hticks : ticks - code.length = modeTicks m + fixedTick m + 3) : RmwForm code ticks i m g s := by
  obtain rfl : f = g := funext₂ result
  refine ⟨encoding, _, arm, ?_, ?_⟩
  · simp only [rmwMem_eq, hticks, setNZ_eq_nz]
    rfl
  · rw [rmwMem_eq]
    exact (stored_memWrite s _ _).of_mem rfl rfl rfl

theorem rmwAccForm (arm : exec i s = .next (rmwAcc f s)) : RmwAccForm code i g s := by
  obtain rfl : f = g := funext₂ result
  exact ⟨encoding, by simp only [arm, rmwAcc, setNZ_eq_nz]; rfl⟩

end

/-! ### The byte that carries C into a rotation (R130, R131) -/

theorem flagBit_zero (c : Bool) : flagBit c 0 = if c then 0x01 else 0x00 := by
  cases c <;> rfl

theorem flagBit_seven (c : Bool) : flagBit c 7 = if c then 0x80 else 0x00 := by
  cases c <;> rfl

/-! ### Every form of each mnemonic -/

/-- Settles O25: INC and DEC by the read-modify-write shape, in the modes of R126 and R127. -/
theorem incDecMemoryResults : Obligations.IncDecMemoryResults := by
  intro s z w inc dec
  have hinc : ∀ v f, Flags.incByte v f = inc v f := fun _ _ => rfl
  have hdec : ∀ v f, Flags.decByte v f = dec v f := fun _ _ => rfl
  exact
    ⟨rmwForm hinc rfl rfl rfl, rmwForm hinc rfl rfl rfl, rmwForm hinc rfl rfl rfl,
      rmwForm hinc rfl rfl rfl,
      rmwForm hdec rfl rfl rfl, rmwForm hdec rfl rfl rfl, rmwForm hdec rfl rfl rfl,
      rmwForm hdec rfl rfl rfl⟩

/-- Settles O26: ASL and LSR by the two read-modify-write shapes, in the modes of R128 and R129. -/
theorem shiftResults : Obligations.ShiftResults := by
  intro s z w asl lsr
  have hasl : ∀ v f, Flags.aslByte v f = asl v f := fun _ _ => rfl
  have hlsr : ∀ v f, Flags.lsrByte v f = lsr v f := fun _ _ => rfl
  exact
    ⟨rmwAccForm hasl rfl rfl, rmwForm hasl rfl rfl rfl, rmwForm hasl rfl rfl rfl,
      rmwForm hasl rfl rfl rfl, rmwForm hasl rfl rfl rfl,
      rmwAccForm hlsr rfl rfl, rmwForm hlsr rfl rfl rfl, rmwForm hlsr rfl rfl rfl,
      rmwForm hlsr rfl rfl rfl, rmwForm hlsr rfl rfl rfl⟩

/-- Settles O27: ROL and ROR by the two read-modify-write shapes, in the modes of R130 and R131. -/
theorem rotateResults : Obligations.RotateResults := by
  intro s z w rol ror
  have hrol : ∀ v f, Flags.rolByte v f = rol v f := fun v f => by rw [Flags.rolByte, flagBit_zero]
  have hror : ∀ v f, Flags.rorByte v f = ror v f := fun v f => by rw [Flags.rorByte, flagBit_seven]
  exact
    ⟨rmwAccForm hrol rfl rfl, rmwForm hrol rfl rfl rfl, rmwForm hrol rfl rfl rfl,
      rmwForm hrol rfl rfl rfl, rmwForm hrol rfl rfl rfl,
      rmwAccForm hror rfl rfl, rmwForm hror rfl rfl rfl, rmwForm hror rfl rfl rfl,
      rmwForm hror rfl rfl rfl, rmwForm hror rfl rfl rfl⟩

/-! ### The ring of nine bits (R130, R131) -/

/-- What a rotation turns, C at 0 and bit `j` of the byte at `j + 1`, and the flags that it keeps. -/
def nineBits (p : Byte × Flags) : (Fin 9 → Bool) × Flags :=
  (fun i => if i.val = 0 then p.2.c else p.1.getLsbD (i.val - 1), { p.2 with c := false })

/-- The ring turned by one place, in the direction of ROR. -/
def turnRing (ring : (Fin 9 → Bool) × Flags) : (Fin 9 → Bool) × Flags :=
  (fun i => ring.1 (i + 1), ring.2)

theorem nineBits_injective : Function.Injective nineBits := by
  rintro ⟨v, f⟩ ⟨w, g⟩ h
  obtain ⟨ring, others⟩ := Prod.mk.inj h
  have hc : f.c = g.c := congrFun ring 0
  have hv : v = w := BitVec.eq_of_getLsbD_eq fun j hj => congrFun ring ⟨j + 1, Nat.succ_lt_succ hj⟩
  have hf : f = g :=
    calc f = { ({ f with c := false } : Flags) with c := f.c } := rfl
      _ = g := by rw [others, hc]
  rw [hv, hf]

theorem turnRing_iterate_nine (ring : (Fin 9 → Bool) × Flags) : turnRing^[9] ring = ring := by
  have around : ∀ i : Fin 9, i + 1 + 1 + 1 + 1 + 1 + 1 + 1 + 1 + 1 = i := by decide
  simp only [Function.iterate_succ, Function.comp_apply, Function.iterate_zero, id, turnRing, around]

theorem nineBits_rorByte (p : Byte × Flags) : nineBits (p.2.rorByte p.1) = turnRing (nineBits p) := by
  refine Prod.ext (funext fun i => ?_) rfl
  fin_cases i <;> simp [nineBits, turnRing, Flags.rorByte, getElem_flagBit]

theorem turnRing_nineBits_rolByte (p : Byte × Flags) :
    turnRing (nineBits (p.2.rolByte p.1)) = nineBits p := by
  refine Prod.ext (funext fun i => ?_) rfl
  fin_cases i <;> simp [nineBits, turnRing, Flags.rolByte, getElem_flagBit]

/-- Settles O28: ROR turns the ring by one place and ROL turns it back, and nine turns are none. -/
theorem rotatesUndoEachOther : Obligations.RotatesUndoEachOther := by
  intro v f rol ror
  have undo : Function.LeftInverse ror rol := fun p =>
    nineBits_injective <| (nineBits_rorByte _).trans (turnRing_nineBits_rolByte p)
  have nine : ∀ p, ror^[9] p = p := fun p => nineBits_injective <|
    ((Function.Semiconj.iterate_right (f := nineBits) nineBits_rorByte 9) p).trans
      (turnRing_iterate_nine _)
  have injective : Function.Injective ror := Function.Injective.of_comp (f := ror^[8]) fun p q h => by
    rw [← nine p, ← nine q]
    exact h
  refine ⟨undo _, undo.rightInverse_of_injective injective _, ?_, nine _⟩
  calc rol^[9] (v, f) = ror^[9] (rol^[9] (v, f)) := (nine _).symm
    _ = (v, f) := undo.iterate 9 _

end Sys2Proof.Machine
end

section
/-!
PROOFS for 44_store.md (O29). The write shape gives every form of a mnemonic its `StoreForm`, of which the
opcode bytes, the instruction's arm and the ticks of the mode are left to computation.
-/

namespace Sys2Proof.Machine

/-- The form of the write shape (R135), for a register that resolving an address does not change. -/
theorem storeForm {reg : State → Byte} (hreg : ∀ s c b, reg { s with cycles := c, bus := b } = reg s)
    {code : List Byte} {ticks : Nat} {i : Instr} {m : MemOperand} {s : State}
    (encoding : encode i = code) (arm : exec i s = .next (writeMem m reg s))
    (hticks : ticks - code.length = modeTicks m + fixedTick m + 1) :
    StoreForm code ticks i m (reg s) s := by
  refine ⟨encoding, _, arm, ?_, ?_⟩
  · simp only [writeMem_eq m reg hreg, hticks]
    rfl
  · rw [writeMem_eq m reg hreg]
    exact (stored_memWrite s _ _).of_mem rfl rfl rfl

/-- Settles O29: STA, STX and STY by the write shape on their register, in the modes of R136 to R138. -/
theorem storeResults : Obligations.StoreResults := by
  intro s z w
  have ha : ∀ (s : State) c b, State.a { s with cycles := c, bus := b } = s.a := fun _ _ _ => rfl
  have hx : ∀ (s : State) c b, State.x { s with cycles := c, bus := b } = s.x := fun _ _ _ => rfl
  have hy : ∀ (s : State) c b, State.y { s with cycles := c, bus := b } = s.y := fun _ _ _ => rfl
  exact
    ⟨storeForm ha rfl rfl rfl, storeForm ha rfl rfl rfl, storeForm ha rfl rfl rfl,
      storeForm ha rfl rfl rfl, storeForm ha rfl rfl rfl, storeForm ha rfl rfl rfl,
      storeForm ha rfl rfl rfl,
      storeForm hx rfl rfl rfl, storeForm hx rfl rfl rfl, storeForm hx rfl rfl rfl,
      storeForm hy rfl rfl rfl, storeForm hy rfl rfl rfl, storeForm hy rfl rfl rfl⟩

end Sys2Proof.Machine
end

section
/-!
PROOFS for 45_implied.md (O30, O31). An implied instruction is its op after one dead tick. The flag
instructions, NOP and TXS do not look at the ticks; the counts and the transfers are the primitive that
sets a register and updates N and Z, whose result the loads of 41_load_logic_compare.md already state.
-/

namespace Sys2Proof.Machine

/-! ### The implied shape (R140) -/

section

variable {code : List Byte} {i : Instr} {s : State}

/-- The form of the implied shape, for an op that makes `t` of the state and hands the dead tick on. -/
theorem impliedForm {op : State → State} {t : State} (encoding : encode i = code)
    (arm : exec i s = .next (impliedShape op s))
    (result : op (s.tick 1) = { t with cycles := s.cycles + 1 }) : ImpliedForm code i t s :=
  ⟨encoding, by rw [arm, impliedShape, result]⟩

/-- An Operation that neither reads nor changes the ticks hands a tick on. -/
theorem HasResult.apply_tick {op g : Byte → State → State} (h : HasResult op g) (v : Byte) (s : State)
    (n : Nat) : op v (s.tick n) = { g v s with cycles := s.cycles + n } := by
  have bus : (g v s).bus = s.bus := (congrArg State.bus (h.untimed v s s.cycles s.bus) :)
  calc
    op v (s.tick n) = g v { s with cycles := s.cycles + n, bus := s.bus } := h.result v _
    _ = { g v s with cycles := s.cycles + n } := by rw [h.untimed, ← bus]

/-- `SetReg(r, v)` of R140, on a value that the dead tick leaves as it was. -/
theorem HasResult.impliedForm {op g : Byte → State → State} (h : HasResult op g) (v : State → Byte)
    (hv : v (s.tick 1) = v s) (encoding : encode i = code)
    (arm : exec i s = .next (impliedShape (fun s => op (v s) s) s)) : ImpliedForm code i (g (v s) s) s :=
  Machine.impliedForm encoding arm (by rw [hv, h.apply_tick])

end

/-! ### Every implied instruction -/

/-- Settles O30: the implied shape on each of the ops of R141 to R147. -/
theorem flagInstructionResults : Obligations.FlagInstructionResults := fun _ =>
  ⟨impliedForm rfl rfl rfl, impliedForm rfl rfl rfl, impliedForm rfl rfl rfl, impliedForm rfl rfl rfl,
    impliedForm rfl rfl rfl, impliedForm rfl rfl rfl, impliedForm rfl rfl rfl⟩

/-- Settles O31: all but NOP and TXS set A, X or Y as the load of that register does (R149 to R158). -/
theorem countAndTransferResults : Obligations.CountAndTransferResults := by
  intro s
  have setA : HasResult opLda (fun v s => { s with a := v, flags := nz v s.flags }) := .loadA fun _ v => v
  have setX := HasResult.opLdx
  have setY := HasResult.opLdy
  have nop : ImpliedForm [0xEA] .nop s s := impliedForm rfl rfl rfl
  have txs : ImpliedForm [0x9A] .txs { s with sp := s.x } s := impliedForm rfl rfl rfl
  exact
    ⟨nop, setX.impliedForm (·.x + 1) rfl rfl rfl, setY.impliedForm (·.y + 1) rfl rfl rfl,
      setX.impliedForm (·.x - 1) rfl rfl rfl, setY.impliedForm (·.y - 1) rfl rfl rfl,
      setX.impliedForm (·.a) rfl rfl rfl, setY.impliedForm (·.a) rfl rfl rfl,
      setX.impliedForm (·.sp) rfl rfl rfl, setA.impliedForm (·.x) rfl rfl rfl, txs,
      setA.impliedForm (·.y) rfl rfl rfl⟩

end Sys2Proof.Machine
end

section
/-!
PROOFS for 46_stack_subroutine.md (O4, O32 to O38). Each instruction is the stack operation of Laws/Stack.lean
that it is made of, after its dead ticks. The two round trips read nothing but these results: a byte that was
pushed to plain memory is the one pulled.
-/

namespace Sys2Proof.Machine

/-! ### Pushes and pulls (R166 to R169) -/

section

variable {code : List Byte} {i : Instr} {s : State}

/-- The form of a push, after one dead tick. -/
theorem pushForm {v : Byte} (encoding : encode i = code) (arm : exec i s = .next ((s.tick 1).push v))
    (hticks : 3 - code.length = 2) : PushForm code i v s := by
  refine ⟨encoding, _, arm, ?_, (stored_memWrite s _ v).of_mem rfl rfl rfl⟩
  rw [hticks]
  rfl

/-- The form of a pull, after two dead ticks, for an op that hands on S, the ticks and the record. -/
theorem pullForm {op g : Byte → State → State} (encoding : encode i = code)
    (arm : exec i s = .next (op (s.tick 2).pull.1 (s.tick 2).pull.2))
    (result : ∀ v p c b, op v { s with sp := p, cycles := c, bus := b } =
      { g v s with sp := p, cycles := c, bus := b })
    (hticks : 4 - code.length = 3) : PullForm code i g s := by
  refine ⟨encoding, arm.trans ?_⟩
  rw [hticks]
  exact congrArg Host.Outcome.next (result _ _ _ _)

end

/-- Bits 5 and 4 of the byte that PHP pushes are set (R167). -/
theorem packP_true_and_mask (f : Flags) : f.packP true &&& 0x30 = 0x30 := by
  have mask : ∀ v : Byte, v.getLsbD 5 = true → v.getLsbD 4 = true → v &&& 0x30 = 0x30 := by decide
  obtain ⟨-, -, bit5, bit4, -⟩ := packedStatusByte.1 true f
  exact mask _ bit5 bit4

/-- Settles O32: the push shape on A and on the packed status. -/
theorem pushResults : Obligations.PushResults := fun s =>
  ⟨pushForm rfl rfl rfl, pushForm rfl rfl rfl, packP_true_and_mask s.flags⟩

/-- Settles O33: the pull shape, into A as LDA does and into the six flags. -/
theorem pullResults : Obligations.PullResults := fun s =>
  ⟨pullForm (op := fun v s => s.loadA v) rfl rfl (fun _ _ _ _ => by rw [State.loadA, setNZ_eq_nz]) rfl,
    pullForm (op := fun v s => { s with flags := Flags.unpackP v }) rfl rfl (fun _ _ _ _ => rfl) rfl⟩

/-! ### Call and return (R170, R171) -/

/-- What a call leaves: `PC - 1` pushed, S two lower, three ticks, PC at the target. -/
theorem callSubroutine_eq (target : Word) (s : State) :
    callSubroutine target s =
      { s with
        pc := target
        sp := s.sp - 2
        cycles := s.cycles + 3
        mem := (callSubroutine target s).mem
        bus := writeOf (stackAddr (s.sp - 1)) (lowByte (s.pc - 1)) ::
          writeOf (stackAddr s.sp) (highByte (s.pc - 1)) :: s.bus } := by
  have e2 : s.sp - 1 - 1 = s.sp - 2 := by bv_omega
  rw [← e2]
  rfl

/-- What a return leaves: the address pulled low byte first, S two higher, five ticks, PC one past it. -/
theorem returnFromSubroutine_eq (s : State) :
    let a1 := stackAddr (s.sp + 1)
    let a2 := stackAddr (s.sp + 2)
    let lo := s.busAnswer a1
    let b1 := readOf a1 lo :: s.bus
    let hi := ({ s with bus := b1 } : State).busAnswer a2
    returnFromSubroutine s =
      { s with
        pc := wordOf hi lo + 1
        sp := s.sp + 2
        cycles := s.cycles + 5
        bus := readOf a2 hi :: b1 } := by
  have e2 : s.sp + 1 + 1 = s.sp + 2 := by bv_omega
  rw [← e2]
  rfl

/-- Settles O34: the call after the three fetches, its return address stored by two pushes. -/
theorem jsrResult : Obligations.JsrResult := fun s target =>
  ⟨rfl, _, rfl, callSubroutine_eq target s, (stored_push_push s _ _).of_mem rfl rfl rfl⟩

/-- Settles O35: the return after the fetch. -/
theorem rtsResult : Obligations.RtsResult := fun s =>
  ⟨rfl, congrArg Host.Outcome.next (returnFromSubroutine_eq s)⟩

/-! ### Software interrupt and return from a handler (R172, R173) -/

/-- Settles O37: the shared entry, from the state after the dead tick with PC past the skipped byte. -/
theorem brkResult : Obligations.BrkResult := fun _ => ⟨rfl, _, rfl, takeException_entered irqVector true _⟩

/-- Settles O38: the shared return, after two dead ticks. -/
theorem rtiResult : Obligations.RtiResult := fun s =>
  ⟨rfl, congrArg Host.Outcome.next (returnFromException_eq (s.tick 2))⟩

/-! ### Round trips -/

/-- A byte stored in plain memory and kept there is what the bus answers later. -/
theorem Stored.busAnswer_of_kept {stores : List (Word × Byte)} {s t u : State} (h : Stored stores s t)
    (hw : s.mem.wf = true) {a : Word} {v : Byte} (hc : (a, v) ∈ stores) (hd : s.inDevice a = false)
    (windows : u.deviceWindows = s.deviceWindows) (kept : u.peek a = t.peek a) : u.busAnswer a = v := by
  obtain ⟨-, held⟩ := h
  have ram : u.inDevice a = false := (State.inDevice_congr windows a).trans hd
  calc
    u.busAnswer a = u.peek a := State.busAnswer_of_ram ram
    _ = t.peek a := kept
    _ = v := (held _ hc).1 hd hw

/-- Settles O4: PLA reads the address that PHA wrote, and the fetch between changes neither S nor memory. -/
theorem phaPlaRoundTrip : Obligations.PhaPlaRoundTrip := by
  intro s hw hd
  obtain ⟨⟨-, t, pha, ht, stored⟩, -⟩ := pushResults s
  obtain ⟨⟨-, pla⟩, -⟩ := pullResults (t.fetchBytes 1).2
  have sp : (t.fetchBytes 1).2.sp + 1 = s.sp := by
    rw [State.fetchBytes_state, ht]
    exact BitVec.sub_add_cancel _ _
  have windows : (t.fetchBytes 1).2.deviceWindows = s.deviceWindows := by
    rw [State.fetchBytes_state, ht]
  refine ⟨t, pha, _, pla, ?_, sp⟩
  rw [sp]
  exact stored.busAnswer_of_kept hw List.mem_cons_self hd windows rfl

/-- Settles O36: RTS pulls the two bytes that JSR pushed, from the addresses they were pushed to. -/
theorem jsrRtsRoundTrip : Obligations.JsrRtsRoundTrip := by
  intro s target hw a0 a1 hd0 hd1
  obtain ⟨-, t, jsr, ht, stored⟩ := jsrResult s target
  refine ⟨t, jsr, by rw [ht], fun u hsp hwin kept0 kept1 => ?_⟩
  obtain ⟨-, rts⟩ := rtsResult u
  have tsp : t.sp = s.sp - 2 := by rw [ht]
  have windows : u.deviceWindows = s.deviceWindows := by rw [hwin, ht]
  have sp1 : u.sp + 1 = s.sp - 1 := by rw [hsp, tsp]; bv_omega
  have sp2 : u.sp + 2 = s.sp := by rw [hsp, tsp, BitVec.sub_add_cancel]
  have lo : u.busAnswer a1 = lowByte (s.pc - 1) :=
    stored.busAnswer_of_kept hw (List.mem_cons_of_mem _ List.mem_cons_self) hd1 windows kept1
  have hi (b) : ({ u with bus := b } : State).busAnswer a0 = highByte (s.pc - 1) :=
    stored.busAnswer_of_kept hw List.mem_cons_self hd0 windows kept0
  refine ⟨_, rts, ?_, sp2⟩
  rw [sp1, sp2]
  calc wordOf _ _ + 1 = wordOf (highByte (s.pc - 1)) (lowByte (s.pc - 1)) + 1 := by rw [hi, lo]
    _ = s.pc := by rw [wordOf_high_low, BitVec.sub_add_cancel]

end Sys2Proof.Machine
end

section
/-!
PROOFS for 47_jump_branch.md (O40, O41). The branch template gives each branch its `BranchForm`; JMP
(indirect) is the pointer's two reads.
-/

namespace Sys2Proof.Machine

/-- The form of the branch template of R181. -/
theorem branchForm {code : List Byte} {i : Instr} {off : Byte} {cond : Bool} {s : State}
    (encoding : encode i = code) (arm : exec i s = .next (branchShape cond off s)) :
    BranchForm code i off cond s :=
  ⟨encoding, by simp only [arm, branchShape_eq, branchTicks, ne_eq, ite_not]⟩

/-- Settles O41: the branch template on the condition of each of R182 to R189. -/
theorem branchResults : Obligations.BranchResults := fun _ _ =>
  ⟨branchForm rfl rfl, branchForm rfl rfl, branchForm rfl rfl, branchForm rfl rfl, branchForm rfl rfl,
    branchForm rfl rfl, branchForm rfl rfl, branchForm rfl rfl⟩

/-- What the JMP pointer gives: two reads, the second within the pointer's page (R90). -/
theorem targetInd_eq (ptr : Word) (s : State) :
    let next := wordOf (highByte ptr) (lowByte ptr + 1)
    let lo := s.busAnswer ptr
    let hi := ({ s with bus := readOf ptr lo :: s.bus } : State).busAnswer next
    targetInd ptr s =
      (wordOf hi lo,
        { s with cycles := s.cycles + 2, bus := readOf next hi :: readOf ptr lo :: s.bus }) :=
  readWord_eq _ _ _

/-- Settles O40: the operand, or what the pointer gives, becomes PC. -/
theorem jmpResults : Obligations.JmpResults := by
  intro s target ptr
  have arm : exec (.jmpInd ptr) s = .next { (targetInd ptr s).2 with pc := (targetInd ptr s).1 } := rfl
  exact ⟨rfl, rfl, rfl, by rw [arm, targetInd_eq]⟩

end Sys2Proof.Machine
end

section
/-!
PROOFS for 48_step_engine.md (O45, O56). The poll chooses between three things to do (`step_of_nmi`,
`step_of_irq`, `step_of_poll`); what is fetched is what the bytes at PC decode to, one case for each format
of R61.
-/

namespace Sys2Proof.Machine

/-! ### The poll (R214) -/

theorem State.poll_eq_instruction {s : State} (hn : s.nmiPending = false)
    (masked : s.irqLine = false ∨ s.flags.i = true) : s.poll = .instruction := by
  rcases masked with h | h <;> simp [State.poll, hn, h]

theorem step_of_nmi {s : State} (h : s.nmiPending = true) : step s = .next (takeNmi s) := by
  simp [step, State.poll, h]

theorem step_of_irq {s : State} (hn : s.nmiPending = false) (hl : s.irqLine = true)
    (hi : s.flags.i = false) : step s = .next (takeIrq s) := by
  simp [step, State.poll, hn, hl, hi]

theorem step_of_poll {s : State} (h : s.poll = .instruction) :
    step s = exec s.fetchInstr.1 s.fetchInstr.2 := by
  simp [step, h]

/-! ### Fetching what the bytes at PC decode to (R196) -/

/-- Fetching an instruction is fetching as many bytes as it has, and these are its encoding: one case for
each format of R61 and one for the illegal bytes. -/
theorem State.fetchInstr_of_decode {s : State} {i : Instr} {rest : List Byte}
    (h : decode (s.fetchBytes 3).1 = .ok (i, rest)) :
    s.fetchInstr = (i, (s.fetchBytes i.length).2) ∧ (s.fetchBytes i.length).1 = encode i := by
  simp only [State.fetchBytes_succ, State.fetchBytes_zero] at h
  cases hb : (dispatchEntry s.fetch8.1).map DispatchEntry.build with
  | none =>
    rw [decode_illegal (Option.map_eq_none_iff.mp hb)] at h
    cases h
    exact ⟨by simp only [State.fetchInstr, hb]; rfl, rfl⟩
  | some b =>
    have encodes := dispatchEntry_encodes hb
    cases b with
    | none j =>
      rw [decode_none hb] at h
      cases h
      obtain ⟨-, code⟩ := encodes
      simp only [State.fetchInstr, hb, Instr.length, code]
      exact ⟨rfl, rfl⟩
    | byte make =>
      rw [decode_byte hb] at h
      cases h
      obtain ⟨-, code⟩ := encodes s.fetch8.2.fetch8.1
      simp only [State.fetchInstr, hb, Instr.length, code]
      exact ⟨rfl, rfl⟩
    | word make =>
      rw [decode_word hb] at h
      cases h
      obtain ⟨-, code⟩ := encodes s.fetch8.2.fetch16.1
      rw [State.fetch16_eq, lowByte_wordOf, highByte_wordOf] at code
      simp only [State.fetchInstr, hb, Instr.length, State.fetch16_eq, code]
      exact ⟨rfl, rfl⟩

/-- Where no device answers, three bytes fetched are those of plain memory. -/
theorem State.fetchBytes_plain {s : State} (h0 : s.inDevice s.pc = false)
    (h1 : s.inDevice (s.pc + 1) = false) (h2 : s.inDevice (s.pc + 2) = false) :
    (s.fetchBytes 3).1 = [s.peek s.pc, s.peek (s.pc + 1), s.peek (s.pc + 2)] := by
  have e : s.pc + 1 + 1 = s.pc + 2 := by bv_omega
  rw [← e] at h2 ⊢
  simp only [State.fetchBytes_succ, State.fetchBytes_zero]
  rw [State.fetch8_plain h0, State.fetch8_plain (s := s.fetch8.2) h1,
    State.fetch8_plain (s := s.fetch8.2.fetch8.2) h2]
  rfl

/-- Settles O45: the poll chooses, and the fetch of an instruction takes the bytes that decode to it. -/
theorem stepRunsDecodedInstruction : Obligations.StepRunsDecodedInstruction := by
  refine fun s => ⟨step_of_nmi, step_of_irq, fun hn masked i rest hd => ?_, State.fetchBytes_plain⟩
  obtain ⟨fetch, bytes⟩ := State.fetchInstr_of_decode hd
  refine ⟨by rw [step_of_poll (State.poll_eq_instruction hn masked), fetch], bytes, ?_⟩
  rw [← bytes, ← State.fetchBytes_bus]
  exact State.fetchBytes_state i.length s

/-! ### The fault of an illegal byte (R211) -/

/-- An illegal byte at PC is fetched alone. -/
theorem State.fetchInstr_of_illegal {s : State} (h : s.busAnswer s.pc ∈ illegalOpcodes) :
    s.fetchInstr = (.illegal (s.busAnswer s.pc), s.fetch8.2) := by
  simp [State.fetchInstr, Laws.illegal_has_no_entry _ h]

/-- A fetched illegal instruction is an illegal byte at PC. -/
theorem State.illegal_of_fetchInstr {s : State} {op : Byte} (h : s.fetchInstr.1 = .illegal op) :
    op = s.busAnswer s.pc ∧ op ∈ illegalOpcodes := by
  obtain ⟨i, rest, hd⟩ : ∃ i rest, decode (s.fetchBytes 3).1 = .ok (i, rest) :=
    decode_three_bytes _ _ _ []
  obtain ⟨fetch, -⟩ := State.fetchInstr_of_decode hd
  obtain ⟨wf, bytes⟩ := encode_append_of_decode hd
  obtain rfl : i = .illegal op := by rw [← h, fetch]
  exact ⟨List.head_eq_of_cons_eq bytes, by simpa [Instr.wf] using wf⟩

/-! ### The outcomes of a step (R195, R198) -/

/-- Settles O56: an entry takes 7 ticks, an instruction 2 to 7 with its fetch (`exec_ticks`), and the one
fault comes of an illegal byte fetched in one tick. -/
theorem stepOutcomesAndTicks : Obligations.StepOutcomesAndTicks := by
  intro s
  obtain ⟨-, h⟩ | ⟨-, -, -, h⟩ | ⟨poll, h⟩ := step_cases s
  · obtain ⟨ticks, -⟩ := takeNmi_ticks s
    exact .inl ⟨_, h, by omega, by omega, fun _ => ticks⟩
  · obtain ⟨ticks, -⟩ := takeIrq_ticks s
    exact .inl ⟨_, h, by omega, by omega, fun _ => ticks⟩
  · obtain ⟨fetch, -⟩ := s.fetchInstr_ticks
    obtain ⟨t, ht⟩ | ⟨op, hi, hf⟩ := exec_outcome s.fetchInstr.1 s.fetchInstr.2
    · obtain ⟨n, least, most, ticks, -⟩ := exec_ticks ht
      exact .inl ⟨t, h.trans ht, by omega, by omega, fun entry => absurd poll entry⟩
    · obtain ⟨rfl, illegal⟩ := State.illegal_of_fetchInstr hi
      rw [hi] at fetch
      exact .inr ⟨poll, illegal, _, h.trans hf, fetch⟩

end Sys2Proof.Machine
end

section
/-!
PROOFS for 60_exceptions.md (O39, O42, O44). NMI, IRQ and BRK enter a handler by the one operation of
Laws/Stack.lean; RTI undoes any such entry whose three stack bytes were kept (`Entered.resumes`).
-/

namespace Sys2Proof.Machine

/-- Settles O42: the step fetches the byte and raises the fault. -/
theorem illegalOpcodeFault : Obligations.IllegalOpcodeFault := by
  refine ⟨fun s poll illegal => ?_, fun _ _ => rfl⟩
  rw [step_of_poll poll, State.fetchInstr_of_illegal illegal]
  rfl

/-! ### Entering a handler and returning from it (R216, R217, R221) -/

theorem takeNmi_entered (s : State) :
    Entered 0xFFFA false { s with nmiPending := false, cycles := s.cycles + 2 } (takeNmi s) :=
  takeException_entered nmiVector false _

theorem takeIrq_entered (s : State) :
    Entered 0xFFFE false { s with cycles := s.cycles + 2 } (takeIrq s) :=
  takeException_entered irqVector false _

/-- Settles O44: the poll takes the interrupt, and its entry is the shared one after two ticks. -/
theorem interruptEntryResult : Obligations.InterruptEntryResult := fun s =>
  ⟨fun nmi => ⟨_, step_of_nmi nmi, takeNmi_entered s⟩,
    fun nmi irq enabled => ⟨_, step_of_irq nmi irq enabled, takeIrq_entered s⟩⟩

/-- From every later state with the S and the devices of `t`, and its bytes at the three addresses that an
entry from `s` pushes to, RTI completes at `pc` with the flags and the S of `s` (R221). -/
def Resumes (s t : State) (pc : Word) : Prop :=
  ∀ u : State, u.sp = t.sp → u.deviceWindows = t.deviceWindows →
    u.peek (stackAddr s.sp) = t.peek (stackAddr s.sp) →
    u.peek (stackAddr (s.sp - 1)) = t.peek (stackAddr (s.sp - 1)) →
    u.peek (stackAddr (s.sp - 2)) = t.peek (stackAddr (s.sp - 2)) →
    ∃ r, exec .rti u = .next r ∧ r.pc = pc ∧ r.flags = s.flags ∧ r.sp = s.sp

/-- RTI pulls the three bytes that entering a handler pushed to plain memory. -/
theorem Entered.resumes {vector : Word} {b : Bool} {s t : State} (h : Entered vector b s t)
    (hw : s.mem.wf = true) (ram0 : s.inDevice (stackAddr s.sp) = false)
    (ram1 : s.inDevice (stackAddr (s.sp - 1)) = false)
    (ram2 : s.inDevice (stackAddr (s.sp - 2)) = false) : Resumes s t s.pc := by
  intro u hsp hwin kept0 kept1 kept2
  obtain ⟨ht, stored⟩ := h
  obtain ⟨-, rti⟩ := rtiResult u
  have tsp : t.sp = s.sp - 3 := by rw [ht]
  have windows : u.deviceWindows = s.deviceWindows := by rw [hwin, ht]
  have sp1 : u.sp + 1 = s.sp - 2 := by rw [hsp, tsp]; bv_omega
  have sp2 : u.sp + 2 = s.sp - 1 := by rw [hsp, tsp]; bv_omega
  have sp3 : u.sp + 3 = s.sp := by rw [hsp, tsp, BitVec.sub_add_cancel]
  have hi (b) : ({ u with bus := b } : State).busAnswer (stackAddr s.sp) = highByte s.pc :=
    stored.busAnswer_of_kept hw (by simp [stackAddr]) ram0 windows kept0
  have lo (b) : ({ u with bus := b } : State).busAnswer (stackAddr (s.sp - 1)) = lowByte s.pc :=
    stored.busAnswer_of_kept hw (by simp [stackAddr]) ram1 windows kept1
  have status : u.busAnswer (stackAddr (s.sp - 2)) = s.flags.packP b :=
    stored.busAnswer_of_kept hw (by simp [stackAddr]) ram2 windows kept2
  refine ⟨_, rti, ?_, ?_, sp3⟩
  · rw [sp1, sp2, sp3]
    exact (congrArg₂ wordOf (hi _) (lo _)).trans (wordOf_high_low _)
  · rw [sp1]
    exact (congrArg Flags.unpackP status).trans (unpackP_packP b s.flags)

/-- Settles O39: each of the three entries pushes the PC to resume at, and keeps S and the flags for RTI. -/
theorem handlerReturnResumes : Obligations.HandlerReturnResumes := by
  intro s hw a0 a1 a2 ram0 ram1 ram2 resumes
  obtain ⟨-, t, brk, entered⟩ := brkResult s
  exact ⟨(takeNmi_entered s).resumes hw ram0 ram1 ram2, (takeIrq_entered s).resumes hw ram0 ram1 ram2,
    t, brk, entered.resumes hw ram0 ram1 ram2⟩

end Sys2Proof.Machine
end

section
/-!
PROOFS for 70_reset_and_hazards.md (O6, O49, O51). What each shared operation charges is said once, as
`Charges`; `exec_ticksMatch` compares it with the base cycles and the penalty of every instruction's row.
-/

namespace Sys2Proof.Machine

/-! ### RESET and the table of base cycles (R240, R251) -/

/-- What reading a vector leaves: two reads, the low byte first (20_memory.md R44). -/
theorem State.readVector_eq (vector : Word) (s : State) :
    s.readVector vector =
      let lo := s.busAnswer vector
      let hi := ({ s with bus := readOf vector lo :: s.bus } : State).busAnswer (vector + 1)
      (wordOf hi lo,
        { s with cycles := s.cycles + 2, bus := readOf (vector + 1) hi :: readOf vector lo :: s.bus }) :=
  readWord_eq _ _ _

/-- Settles O6: five dead ticks, then the two vector reads. -/
theorem resetOperation : Obligations.ResetOperation := by
  intro s lo hi
  rw [State.resetOp, State.readVector_eq]
  rfl

/-- Settles O49: the two tables, byte by byte. -/
theorem publishedBaseCycles : Obligations.PublishedBaseCycles := by
  unfold Obligations.PublishedBaseCycles
  decide

/-! ### The ticks of each operation -/

/-- From every state, the operation `f` charges `k` ticks and the `extra` of that state. -/
def Charges (k : Nat) (extra : State → Nat) (f : State → State) : Prop :=
  ∀ s, (f s).cycles = s.cycles + k + extra s

theorem Charges.fixed (k : Nat) {f : State → State} (h : ∀ s, (f s).cycles = s.cycles + k) :
    Charges k (fun _ => 0) f := h

theorem Charges.readMem (o : MemOperand) {op : Byte → State → State}
    (hop : ∀ v s, (op v s).cycles = s.cycles) :
    Charges (modeTicks o + 1) (pageTick o) (readMem o op) :=
  fun s => by rw [readMem_eq, hop]; rfl

theorem Charges.rmwMem (o : MemOperand) (f : Byte → Flags → Byte × Flags) :
    Charges (modeTicks o + fixedTick o + 3) (fun _ => 0) (rmwMem o f) :=
  fun s => by rw [rmwMem_eq]; rfl

theorem Charges.writeMem (o : MemOperand) {reg : State → Byte}
    (hreg : ∀ s c b, reg { s with cycles := c, bus := b } = reg s) :
    Charges (modeTicks o + fixedTick o + 1) (fun _ => 0) (writeMem o reg) :=
  fun s => by rw [writeMem_eq o reg hreg]; rfl

theorem Charges.branchShape (cond : State → Bool) (off : Byte) :
    Charges 0 (fun s => branchTicks (cond s) off s) fun s => branchShape (cond s) off s :=
  fun s => congrArg State.cycles (branchShape_eq (cond s) off s)

theorem opAdc_cycles (v : Byte) (s : State) : (opAdc v s).cycles = s.cycles := by
  rw [opAdc_state]

/-! ### The penalty (R250) -/

/-- The penalty of an instruction with this mode, mnemonic and operand bytes: the page crossing of a read
in one of the three indexed modes, or the ticks of a taken branch. -/
def rowPenalty (mode : Mode) (m : Mnemonic) (operand : List Byte) (s : State) : Nat :=
  match m.shape, mode, operand with
  | .read, .absx, [lo, hi] => pageTick (.absx (wordOf hi lo)) s
  | .read, .absy, [lo, hi] => pageTick (.absy (wordOf hi lo)) s
  | .read, .indy, [z] => pageTick (.indy z) s
  | .branch, _, [off] => branchTicks (branchTaken m s.flags) off s
  | _, _, _ => 0

/-- The penalty looks at mode, mnemonic and operand bytes alone; no other mode of the read shape has a
page-crossing tick. -/
theorem penalty_eq_rowPenalty {i : Instr} {mode : Mode} {m : Mnemonic} (hmode : i.mode = some mode)
    (hm : i.mnemonic = some m) (s : State) :
    penalty i s = rowPenalty mode m i.operandBytes s := by
  simp only [penalty, Instr.memOperand, Instr.shape, hmode, hm, Option.map_some, rowPenalty]
  cases m.shape with
  | read => cases mode <;> rcases i.operandBytes with _ | ⟨a, _ | ⟨b, _ | _⟩⟩ <;> rfl
  | branch => rcases i.operandBytes with _ | ⟨off, _ | _⟩ <;> rfl
  | _ => rfl

/-! ### The ticks of every instruction (R250) -/

/-- Execution of `i` answers a next state and takes, with the fetch of its bytes, the base cycles of its
dispatch entry plus the penalty. -/
def TicksMatch (i : Instr) : Prop :=
  ∃ n, i.baseCycles = some n ∧ ∀ s, ∃ t, exec i s = .next t ∧
    t.cycles + i.length = s.cycles + n + penalty i s

/-- An instruction whose meaning is the operation `f`, if `f` charges what the instruction's row says
beyond the fetch, and the penalty. -/
theorem TicksMatch.of_exec {i : Instr} {mode : Mode} {m : Mnemonic} {n k : Nat}
    {extra : State → Nat} {f : State → State} (he : ∀ s, exec i s = .next (f s))
    (h : Charges k extra f) (wf : i.wf = true) (row : Laws.DispatchRow.row i = some (mode, m, n))
    (base : k + i.length = n) (more : ∀ s, rowPenalty mode m i.operandBytes s = extra s) :
    TicksMatch i := by
  obtain ⟨hmode, hm, -, hn⟩ := Laws.DispatchRow.fields (dispatchRow i) wf row
  refine ⟨n, hn, fun s => ⟨f s, he s, ?_⟩⟩
  rw [h, penalty_eq_rowPenalty hmode hm, more]
  omega

/-- The address operand of a mode, put together from its two bytes. -/
theorem pageTick_wordOf (mode : Word → MemOperand) (a : Word) (s : State) :
    pageTick (mode (wordOf (highByte a) (lowByte a))) s = pageTick (mode a) s := by
  rw [wordOf_high_low]

/-- Every instruction but an illegal byte: one case for each shape template and number of ticks. -/
theorem exec_ticksMatch (i : Instr) (h : ∀ op, i ≠ .illegal op) : TicksMatch i := by
  cases i with
  | illegal op => exact absurd rfl (h op)
  | ldaImm | ldxImm | ldyImm | oraImm | andImm | eorImm | sbcImm | cmpImm | cpxImm | cpyImm | jmpAbs =>
    exact .of_exec (fun _ => rfl) (.fixed 0 fun _ => rfl) rfl rfl rfl fun _ => rfl
  | adcImm d8 => exact .of_exec (fun _ => rfl) (.fixed 0 <| opAdc_cycles d8) rfl rfl rfl fun _ => rfl
  | aslAcc | lsrAcc | rolAcc | rorAcc
  | clc | cld | cli | clv | sec | sed | sei | nop | inx | iny | dex | dey
  | tax | tay | tsx | txa | txs | tya =>
    exact .of_exec (fun _ => rfl) (.fixed 1 fun _ => rfl) rfl rfl rfl fun _ => rfl
  | pha | php | jmpInd =>
    exact .of_exec (fun _ => rfl) (.fixed 2 fun _ => rfl) rfl rfl rfl fun _ => rfl
  | pla | plp | jsr =>
    exact .of_exec (fun _ => rfl) (.fixed 3 fun _ => rfl) rfl rfl rfl fun _ => rfl
  | rts | rti => exact .of_exec (fun _ => rfl) (.fixed 5 fun _ => rfl) rfl rfl rfl fun _ => rfl
  | brk => exact .of_exec (fun _ => rfl) (.fixed 6 fun _ => rfl) rfl rfl rfl fun _ => rfl
  | ldaZp | ldaZpx | ldaAbs | ldaIndx | ldaIndy | ldxZp | ldxZpy | ldxAbs | ldyZp | ldyZpx | ldyAbs
  | oraZp | oraZpx | oraAbs | oraIndx | oraIndy | andZp | andZpx | andAbs | andIndx | andIndy
  | eorZp | eorZpx | eorAbs | eorIndx | eorIndy | sbcZp | sbcZpx | sbcAbs | sbcIndx | sbcIndy
  | cmpZp | cmpZpx | cmpAbs | cmpIndx | cmpIndy | cpxZp | cpxAbs | cpyZp | cpyAbs | bitZp | bitAbs =>
    exact .of_exec (fun _ => rfl) (.readMem _ fun _ _ => rfl) rfl rfl rfl fun _ => rfl
  | ldaAbsx a | ldyAbsx a | oraAbsx a | andAbsx a | eorAbsx a | sbcAbsx a | cmpAbsx a =>
    exact .of_exec (fun _ => rfl) (.readMem _ fun _ _ => rfl) rfl rfl rfl (pageTick_wordOf .absx a)
  | ldaAbsy a | ldxAbsy a | oraAbsy a | andAbsy a | eorAbsy a | sbcAbsy a | cmpAbsy a =>
    exact .of_exec (fun _ => rfl) (.readMem _ fun _ _ => rfl) rfl rfl rfl (pageTick_wordOf .absy a)
  | adcZp | adcZpx | adcAbs | adcIndx | adcIndy =>
    exact .of_exec (fun _ => rfl) (.readMem _ opAdc_cycles) rfl rfl rfl fun _ => rfl
  | adcAbsx a =>
    exact .of_exec (fun _ => rfl) (.readMem _ opAdc_cycles) rfl rfl rfl (pageTick_wordOf .absx a)
  | adcAbsy a =>
    exact .of_exec (fun _ => rfl) (.readMem _ opAdc_cycles) rfl rfl rfl (pageTick_wordOf .absy a)
  | incZp | incZpx | incAbs | incAbsx | decZp | decZpx | decAbs | decAbsx
  | aslZp | aslZpx | aslAbs | aslAbsx | lsrZp | lsrZpx | lsrAbs | lsrAbsx
  | rolZp | rolZpx | rolAbs | rolAbsx | rorZp | rorZpx | rorAbs | rorAbsx =>
    exact .of_exec (fun _ => rfl) (.rmwMem _ _) rfl rfl rfl fun _ => rfl
  | staZp | staZpx | staAbs | staAbsx | staAbsy | staIndx | staIndy
  | stxZp | stxZpy | stxAbs | styZp | styZpx | styAbs =>
    exact .of_exec (fun _ => rfl) (.writeMem _ fun _ _ _ => rfl) rfl rfl rfl fun _ => rfl
  | bpl off | bmi off | bvc off | bvs off | bcc off | bcs off | bne off | beq off =>
    exact .of_exec (fun _ => rfl) (.branchShape _ off) rfl rfl rfl fun _ => rfl

/-- A byte that stands alone as illegal has no base cycles (30_encoding.md R67). -/
theorem ne_illegal_of_baseCycles {i : Instr} {n : Nat} (wf : i.wf = true)
    (hn : i.baseCycles = some n) (op : Byte) : i ≠ .illegal op := by
  rintro rfl
  have no_entry := Laws.illegal_has_no_entry op (by simpa [Instr.wf] using wf)
  simp [Instr.baseCycles, Instr.entry, Instr.opcode, encode, no_entry] at hn

/-! ### The opcodes with a possible penalty (R250) -/

/-- A dispatch entry whose instruction can take a penalty tick. -/
def mayPay (e : DispatchEntry) : Bool :=
  match e.instruction.shape with
  | .read => decide (e.mode ∈ [.absx, .absy, .indy])
  | .branch => true
  | _ => false

theorem mayPay_of_rowPenalty {e : DispatchEntry} {operand : List Byte} {s : State}
    (h : rowPenalty e.mode e.instruction operand s ≠ 0) : mayPay e = true := by
  unfold rowPenalty at h
  split at h
  case h_1 shape mode | h_2 shape mode | h_3 shape mode => simp [mayPay, shape, mode]
  case h_4 shape => simp [mayPay, shape]
  case h_5 => exact absurd rfl h

/-- A penalty comes of an entry that allows one. -/
theorem mayPay_of_penalty {i : Instr} {s : State} (h : penalty i s ≠ 0) :
    (dispatchEntry i.opcode).any mayPay = true := by
  cases he : i.entry with
  | none => exact absurd (by simp [penalty, Instr.shape, Instr.mnemonic, he]) h
  | some e =>
    have hmode : i.mode = some e.mode := by rw [Instr.mode, he, Option.map_some]
    have hm : i.mnemonic = some e.instruction := by rw [Instr.mnemonic, he, Option.map_some]
    rw [penalty_eq_rowPenalty hmode hm] at h
    rw [← Instr.entry, he, Option.any_some, mayPay_of_rowPenalty h]

/-- A state in which the read at 0x00FF indexed by X or Y, and the one through the pointer at 0xFF, cross
a page; all flags are `b`. -/
def payingState (b : Bool) : State :=
  { State.created with
    x := 0xFF
    y := 0xFF
    flags := { n := b, v := b, d := b, i := b, z := b, c := b }
    mem := [(0xFF, 0x01)] }

/-- The instruction of opcode `op` with the operand bytes 0xFF, 0x00 pays in `payingState b`. -/
def pays (op : Byte) (b : Bool) : Bool :=
  match decode [op, 0xFF, 0x00] with
  | .ok (i, _) => i.opcode == op && penalty i (payingState b) != 0
  | .error _ => false

theorem penalty_of_pays {op : Byte} {b : Bool} (h : pays op b = true) :
    ∃ (i : Instr) (s : State), i.opcode = op ∧ penalty i s ≠ 0 := by
  unfold pays at h
  split at h
  · next i _ _ => exact ⟨i, payingState b, by simpa using h⟩
  · cases h

/-- The 31 opcodes of R250. -/
def penaltyOpcodes : List Byte :=
  [0x1D, 0x19, 0x11, 0x3D, 0x39, 0x31, 0x5D, 0x59, 0x51, 0x7D, 0x79, 0x71, 0xBD, 0xB9, 0xB1,
    0xBE, 0xBC, 0xDD, 0xD9, 0xD1, 0xFD, 0xF9, 0xF1,
    0x10, 0x30, 0x50, 0x70, 0x90, 0xB0, 0xD0, 0xF0]

theorem mem_penaltyOpcodes_of_mayPay :
    ∀ op : Byte, (dispatchEntry op).any mayPay = true → op ∈ penaltyOpcodes := by decide

theorem exists_pays : ∀ op ∈ penaltyOpcodes, ∃ b, pays op b = true := by decide

/-- Settles O51: a step fetches the instruction and executes it, in the ticks of `exec_ticksMatch`; the
opcodes that can pay are read off the matrix, and each of them pays in a `payingState`. -/
theorem stepCyclesMatchTable : Obligations.StepCyclesMatchTable := by
  refine ⟨fun s i rest n poll hd hb => ?_, fun op => ⟨?_, fun listed => ?_⟩⟩
  · obtain ⟨fetch, -⟩ := State.fetchInstr_of_decode hd
    obtain ⟨wf, -⟩ := encode_append_of_decode hd
    obtain ⟨n', hn', executes⟩ := exec_ticksMatch i (ne_illegal_of_baseCycles wf hb)
    obtain ⟨t, ht, ticks⟩ := executes (s.fetchBytes i.length).2
    obtain rfl : n = n' := by simpa [hb] using hn'
    refine ⟨t, by rw [step_of_poll poll, fetch, ht], ?_⟩
    have fetched : (s.fetchBytes i.length).2.cycles = s.cycles + i.length := by
      rw [State.fetchBytes_state]
    omega
  · rintro ⟨i, s, rfl, paid⟩
    exact mem_penaltyOpcodes_of_mayPay _ (mayPay_of_penalty paid)
  · obtain ⟨b, paid⟩ := exists_pays op listed
    exact penalty_of_pays paid

end Sys2Proof.Machine
end
